-- ==== Sys2Proof/Word.lean ====
section
/-! DEFINITION. The word types of the block: the byte and the 256-bit matrix (10_state.md). -/

namespace Sys2Proof

/-- RawByte: "an 8-bit value received from or destined for the legacy bus" (00_scope.md glossary). -/
abbrev Byte := BitVec 8

/-- The KeyMatrix bitmap: one bit per KeyIdentifier value 0..255 (R51). -/
abbrev Matrix := BitVec 256

end Sys2Proof
end

