-- ==== Sys2Proof/Config.lean ====
section
/-! DEFINITION. The configuration record: every implementation parameter of R7, its constraints (R8, R103, R111) and its defaults.
The configuration is a build-time parameter, never written (R50, R67); it stands in State so that every claim is for all of them (log 1). -/

namespace Sys2Proof

/-- The active code set: "two legacy code sets"; one is code set 3, the other is called SETX (R7 `CODE_SET`, D18). -/
inductive CodeSet where
  | set3
  | setX
deriving DecidableEq, Repr

/-- The receive strategy (R7 `RX_IMPL`, R143). -/
inductive RxImpl where
  | edge
  | peripheral
deriving DecidableEq, Repr

/-- Whether an edge latched during receive suppression may be delivered at restore (R7 `RESTORE_SPURIOUS_EDGE`, D15). -/
inductive RestoreEdge where
  | never
  | maybe
deriving DecidableEq, Repr

/-- A 256-entry lookup table, scan byte to KeyIdentifier, written as its entries other than 0x00: a byte not listed is
unmapped, "no key" (R54, R66). The first entry for a byte counts (log 3). -/
abbrev Table := List (Byte × Byte)

/-- The parameters R7 gives per code set. -/
structure CodeSetConfig where
  /-- `RELEASE_PREFIX[cs]` -/
  releasePrefix : Byte
  /-- `EXT_PREFIXES[cs]`, 0, 1 or 2 values -/
  extPrefixes : List Byte
  /-- `SPECIAL_PREFIX[cs]`, optional -/
  specialPrefix : Option Byte
  /-- `SPECIAL_ID[cs]` -/
  specialId : Byte
  /-- `TBL_PRIMARY[cs]` -/
  primary : Table
  /-- `TBL_EXTENDED[cs]` -/
  extended : Table
deriving DecidableEq, Repr

/-- The configuration record of R7. -/
structure Config where
  /-- `T_STALE_MS` -/
  tStaleMs : Nat
  /-- `T_IDLE_MS` -/
  tIdleMs : Nat
  /-- `T_CLOCKOUT_MS` -/
  tClockoutMs : Nat
  /-- `T_REPLY_MS` -/
  tReplyMs : Nat
  /-- `QUEUE_SLOTS` -/
  queueSlots : Nat
  /-- `TIME_W` -/
  timeW : Nat
  /-- `CODE_SET` -/
  codeSet : CodeSet
  /-- the parameters of code set 3 -/
  set3 : CodeSetConfig
  /-- the parameters of the other code set -/
  setX : CodeSetConfig
  /-- `ROLLOVER_SENTINEL` -/
  rolloverSentinel : Byte
  /-- `REPORT_SLOTS` -/
  reportSlots : Nat
  /-- `ACK_BYTE` -/
  ackByte : Byte
  /-- `RESEND_BYTE` -/
  resendByte : Byte
  /-- `CMD_RESEND` -/
  cmdResend : Byte
  /-- `CMD_SET_LEDS` -/
  cmdSetLeds : Byte
  /-- `STARTUP_SEQ` -/
  startupSeq : List Byte
  /-- `CMD_MAX_ATTEMPTS` -/
  cmdMaxAttempts : Nat
  /-- `T_SETTLE` in microseconds: no rule depends on its length (R154), so nothing reads it -/
  tSettleUs : Nat
  /-- `T_INHIBIT` in microseconds: no rule depends on its length (R157), so nothing reads it -/
  tInhibitUs : Nat
  /-- `RX_IMPL` -/
  rxImpl : RxImpl
  /-- `RESTORE_SPURIOUS_EDGE` -/
  restoreSpuriousEdge : RestoreEdge
deriving DecidableEq, Repr

/-- The highest KeyIdentifier (R77). -/
def maxKeyId : Nat := 0xE7

/-- A real KeyIdentifier: 0x01..0xE7, 0x00 being "no key" (R102, C11). -/
def isKeyId (id : Byte) : Bool := decide (1 ≤ id.toNat ∧ id.toNat ≤ maxKeyId)

/-- The record of the active code set (R7 `CODE_SET`). -/
def Config.active (c : Config) : CodeSetConfig :=
  match c.codeSet with
  | .set3 => c.set3
  | .setX => c.setX

/-- Is `b` a prefix value of the code set? (R100, R181) -/
def CodeSetConfig.isPrefix (k : CodeSetConfig) (b : Byte) : Bool :=
  decide (b = k.releasePrefix) || decide (b ∈ k.extPrefixes) || decide (k.specialPrefix = some b)

/-- R8 b, c for one table: entries in 0x00..0xE7; at a prefix index "may hold anything" (log 16). -/
def CodeSetConfig.tableWf (k : CodeSetConfig) (t : Table) : Bool :=
  t.all (fun e => k.isPrefix e.1 || decide (e.2.toNat ≤ maxKeyId))

/-- R8 a to d and R111 for one code set: prefix values pairwise distinct, at most two extended ones, table entries in
0x00..0xE7, the dedicated identifier a real key. -/
def CodeSetConfig.wf (k : CodeSetConfig) : Bool :=
  decide (k.extPrefixes.length ≤ 2) && decide k.extPrefixes.Nodup &&
  decide (k.releasePrefix ∉ k.extPrefixes) &&
  decide (∀ p ∈ k.specialPrefix, p ≠ k.releasePrefix ∧ p ∉ k.extPrefixes) &&
  isKeyId k.specialId &&
  k.tableWf k.primary && k.tableWf k.extended

/-- The numeric constraints: R8 e to g, R103 (`ACK_BYTE` differs from `RESEND_BYTE`); and `REPORT_SLOTS` in 1..6, what the 8-byte
format can hold (log 30). -/
def Config.limitsWf (c : Config) : Bool :=
  decide (33 ≤ c.queueSlots ∧ 1 ≤ c.cmdMaxAttempts ∧ 9 ≤ c.timeW ∧ c.ackByte ≠ c.resendByte ∧
    1 ≤ c.reportSlots ∧ c.reportSlots ≤ 6)

/-- The constraints a configuration must meet: R8, R103, R111; the list of U14. -/
def Config.wf (c : Config) : Bool := c.limitsWf && c.set3.wf && c.setX.wf

/-- Code set 3 with R7's defaults; the one table entry is the only one the source gives (N3). PRESUMED where R7 says
general knowledge (G2, G3), log 2. -/
def CodeSetConfig.default3 : CodeSetConfig :=
  { releasePrefix := 0xF0, extPrefixes := [], specialPrefix := none, specialId := 0x48
    primary := [(0x1C, 0x04)], extended := [] }

/-- The other code set with R7's defaults (G1, G2, G3), PRESUMED, log 2; no table entry of it is in the source. -/
def CodeSetConfig.defaultX : CodeSetConfig :=
  { releasePrefix := 0xF0, extPrefixes := [0xE0], specialPrefix := some 0xE1, specialId := 0x48
    primary := [], extended := [] }

/-- The defaults of R7 with `CODE_SET` = SET3. PRESUMED where R7 says general knowledge (G1 to G7), log 2. -/
def Config.default : Config :=
  { tStaleMs := 100, tIdleMs := 100, tClockoutMs := 100, tReplyMs := 250
    queueSlots := 64, timeW := 32
    codeSet := .set3, set3 := .default3, setX := .defaultX
    rolloverSentinel := 0x01, reportSlots := 6, ackByte := 0xFA, resendByte := 0xFE
    cmdResend := 0xFE, cmdSetLeds := 0xED, startupSeq := [0xF0, 0x03, 0xF8]
    cmdMaxAttempts := 3, tSettleUs := 0, tInhibitUs := 100
    rxImpl := .edge, restoreSpuriousEdge := .never }

/-- The same with the other code set active and its startup sequence (R7 `STARTUP_SEQ` for SETX). -/
def Config.useSetX (c : Config) : Config :=
  { c with codeSet := .setX, startupSeq := [0xF0, 0x02] }

end Sys2Proof
end

