-- ==== Sys2Proof/Machine/Operands.lean ====
section
/-! DEFINITION. The operand forms: bits of a byte, the bus frame, LED remap, table lookup, byte classes, elapsed time (30_encoding.md, 20_memory.md). -/

namespace Sys2Proof.Machine

/-- Bit `i` of `v` replaced by `x` (R9, R30, R68); `i` outside the width changes nothing. -/
def setBit {n : Nat} (v : BitVec n) (i : Nat) (x : Bool) : BitVec n :=
  if x then v ||| BitVec.twoPow n i else v &&& ~~~ BitVec.twoPow n i

/-- `X(b)`: the XOR of the eight data bits (R92). -/
def xorByte (b : Byte) : Bool :=
  b.getLsbD 0 ^^ b.getLsbD 1 ^^ b.getLsbD 2 ^^ b.getLsbD 3 ^^
  b.getLsbD 4 ^^ b.getLsbD 5 ^^ b.getLsbD 6 ^^ b.getLsbD 7

/-- `P(b) = 1 xor X(b)`: the odd-parity bit (R92). -/
def parityBit (b : Byte) : Bool := !xorByte b

/-- `Frame(b)` as eleven bits, bit k = wire bit k: start 0, data least significant first, parity, stop 1 (R91, R94). -/
def frameOf (b : Byte) : BitVec 11 :=
  (1#1 ++ (BitVec.ofBool (parityBit b) ++ (b ++ 0#1))).cast (by decide)

/-- The byte of eleven sampled bits: wire bits 8..1 (R93). -/
def frameByte (w : BitVec 11) : Byte := w.extractLsb' 1 8

/-- Wire bits 1..9 have odd parity (R93). -/
def frameParityOk (w : BitVec 11) : Bool := xorByte (frameByte w) ^^ w.getLsbD 9

/-- A valid frame: start 0, odd parity, stop 1 (R93). -/
def frameValid (w : BitVec 11) : Bool := !w.getLsbD 0 && frameParityOk w && w.getLsbD 10

/-- The eleven sampled data levels in the order they come (R91). -/
def frameBits (w : BitVec 11) : List Bool := (List.range 11).map w.getLsbD

/-- `LedRemap(u)`: USB numbering to the legacy bus's (R105). -/
def ledRemap (u : Byte) : Byte := ((u &&& 0x03) <<< 1) ||| ((u >>> 2) &&& 0x01)

/-- `LED_LEGACY` byte {00000, c, n, s} (R105). -/
def ledLegacyByte (c n s : Bool) : Byte :=
  (0#5 ++ (BitVec.ofBool c ++ (BitVec.ofBool n ++ BitVec.ofBool s))).cast (by decide)

/-- The entry of a table at a scan byte; 0x00, "no key", where none is listed (R66, D17). -/
def tableAt (t : Table) (b : Byte) : Byte :=
  match t with
  | [] => 0x00
  | e :: rest => if e.1 = b then e.2 else tableAt rest b

/-- `Tbl(cs, ext, b)` with cs = `CODE_SET` (R66). -/
def tbl (c : Config) (ext : Bool) (b : Byte) : Byte :=
  if ext then tableAt c.active.extended b else tableAt c.active.primary b

/-- The classes of a raw byte (R100). -/
inductive ByteClass where
  | release
  | extended
  | special
  | key
deriving DecidableEq, Repr

/-- BYTECLASS: by value alone, in this priority order (R100, R180). -/
def classify (c : Config) (b : Byte) : ByteClass :=
  if b = c.active.releasePrefix then .release
  else if b ∈ c.active.extPrefixes then .extended
  else if c.active.specialPrefix = some b then .special
  else .key

/-- `elapsed(t0, t1) = (t1 - t0) mod 2^TIME_W` (R9, R84). -/
def elapsed (timeW t0 t1 : Nat) : Nat := (t1 + (2 ^ timeW - t0 % 2 ^ timeW)) % 2 ^ timeW

/-- The wait that began at `t0` with limit `limit` has expired at `now`: strictly more (R9, D3). -/
def expired (c : Config) (limit t0 now : Nat) : Bool := decide (elapsed c.timeW t0 now > limit)

/-- `(i + 1) mod QUEUE_SLOTS` (R83). -/
def nextSlot (c : Config) (i : Nat) : Nat := (i + 1) % c.queueSlots

end Sys2Proof.Machine
end

