-- ==== Sys2Proof/Syntax.lean ====
section
/-! DEFINITION. The operations: one constructor per row of spec/opcode_table.json (R12, R118), and the selectors that pick them. -/

namespace Sys2Proof

/-- The four reasons a write can fail (R252): the operand of `TX.FAIL` (R167). -/
inductive TxFault where
  | busBusy
  | clockTimeout
  | noAck
  | ackTimeout
deriving DecidableEq, Repr

/-- The operations, this block's "instructions". -/
inductive Instr where
  -- RXSEL: one falling edge, by (rx_bit_count, d)
  | rxStart
  | rxSpurious
  | rxData (k : BitVec 4) (d : Bool)
  | rxParity (d : Bool)
  | rxStop (d : Bool)
  | rxStale
  | rxStep
  /-- eleven sampled bits, bit k of `w` = wire bit k -/
  | frame11 (w : BitVec 11)
  /-- `a` = the sampled level: false = 0 = acknowledged -/
  | txLineAck (a : Bool)
  -- ByteQueue
  | qPush (b : Byte)
  | qPop
  -- BYTECLASS
  | tRelease
  | tReleaseSetX
  | tExt (b : Byte)
  | tSpecial
  | tKey (b : Byte)
  | tKey1C
  | translate (b : Byte)
  -- REPLY
  | replyAck
  | replyResend
  | replyOther (b : Byte)
  | replyNone
  -- CMD
  | cmdResend
  | cmdSetLeds
  | cmdSelectCodeSet
  | cmdDisableTypematic
  -- LED
  | ledUsb (u : Byte)
  | ledLegacy (c n s : Bool)
  -- EVENT, REPORT8
  | event (rel : Bool) (id : Byte)
  | report8
  | rolloverSentinel
  -- write path
  | txWrite (b : Byte)
  | txWaitIdle
  | txSettle
  | txInhibit
  | txStart
  | txWaitLow
  | txWaitHigh
  | txAckWaitLow
  | txAckWaitRelease
  | txFail (f : TxFault)
  | txSucceed
  -- matrix and report
  | mApply (id : Byte) (rel : Bool)
  | rBuild
  | rDeliver
  | rDeliverReq
  -- session driver
  | sCmd (b : Byte)
  | sStartup
  | sLed
  | ledIn (u : Byte)
  | sResend
  | sLoop
  | sSleep
  | lineInit
deriving DecidableEq, Repr

/-- Who sends a CMD byte: `CMD` rows are picked by the sender and the parameter, and two parameters may have one value (R104). -/
inductive CmdRole where
  | resend
  | setLeds
  | selectCodeSet
  | disableTypematic
deriving DecidableEq, Repr

/-- The rows whose encoding the table leaves null: they are selected by an event or by a sequencer, not by bits (R118). -/
inductive EventRow where
  | rxStale | rxStep | qPush | qPop | translate | replyNone | report8
  | txWrite | txWaitIdle | txSettle | txInhibit | txStart | txWaitLow | txWaitHigh
  | txAckWaitLow | txAckWaitRelease | txFail | txSucceed
  | mApply | rBuild | rDeliver | rDeliverReq
  | sCmd | sStartup | sLed | ledIn | sResend | sLoop | sSleep | lineInit
deriving DecidableEq, Repr

/-- The formats of the opcode table's selectors (R90, R118). -/
inductive Format where
  | rxsel | frame11 | byteClass | reply | cmd | led | event | report8 | eventInvoked
deriving DecidableEq, Repr

/-- A selector: the bits that pick an operation, in the format in which the block meets them (R90). The block has no
instruction words; this is what stands in their place (log 13). -/
inductive Selector where
  /-- {rx_bit_count[3:0], d} (R95) -/
  | rxsel (w : BitVec 5)
  /-- eleven wire bits, bit k = wire bit k (R91) -/
  | frame11 (w : BitVec 11)
  /-- the data level at the 11th falling edge of a write (R97) -/
  | lineAck (w : BitVec 1)
  /-- the raw byte handed to the translator (R100) -/
  | byteClass (b : Byte)
  /-- the byte popped while S.CMD waits (R103) -/
  | reply (b : Byte)
  /-- the byte a sender writes to the bus (R104) -/
  | cmd (role : CmdRole) (b : Byte)
  /-- the byte on `led_in` (R105) -/
  | ledUsb (b : Byte)
  /-- the byte after `CMD_SET_LEDS` (R105) -/
  | ledLegacy (b : Byte)
  /-- {is_release, id} (R102) -/
  | event (w : BitVec 9)
  /-- the byte in every slot on overflow (R108) -/
  | report8 (b : Byte)
  /-- a row selected by an event, with its operand if it has one; 0 where it has none -/
  | invoked (row : EventRow) (operand : BitVec 9)
deriving DecidableEq, Repr

/-- The format a selector is in. -/
def Selector.format : Selector → Format
  | .rxsel _ => .rxsel
  | .frame11 _ => .frame11
  | .lineAck _ => .frame11
  | .byteClass _ => .byteClass
  | .reply _ => .reply
  | .cmd _ _ => .cmd
  | .ledUsb _ => .led
  | .ledLegacy _ => .led
  | .event _ => .event
  | .report8 _ => .report8
  | .invoked .replyNone _ => .reply
  | .invoked .report8 _ => .report8
  | .invoked _ _ => .eventInvoked

/-- The "format" column of the opcode table, row by row. -/
def Instr.format : Instr → Format
  | .rxStart => .rxsel
  | .rxSpurious => .rxsel
  | .rxData _ _ => .rxsel
  | .rxParity _ => .rxsel
  | .rxStop _ => .rxsel
  | .rxStale => .eventInvoked
  | .rxStep => .eventInvoked
  | .frame11 _ => .frame11
  | .txLineAck _ => .frame11
  | .qPush _ => .eventInvoked
  | .qPop => .eventInvoked
  | .tRelease => .byteClass
  | .tReleaseSetX => .byteClass
  | .tExt _ => .byteClass
  | .tSpecial => .byteClass
  | .tKey _ => .byteClass
  | .tKey1C => .byteClass
  | .translate _ => .eventInvoked
  | .replyAck => .reply
  | .replyResend => .reply
  | .replyOther _ => .reply
  | .replyNone => .reply
  | .cmdResend => .cmd
  | .cmdSetLeds => .cmd
  | .cmdSelectCodeSet => .cmd
  | .cmdDisableTypematic => .cmd
  | .ledUsb _ => .led
  | .ledLegacy _ _ _ => .led
  | .event _ _ => .event
  | .report8 => .report8
  | .rolloverSentinel => .report8
  | .txWrite _ => .eventInvoked
  | .txWaitIdle => .eventInvoked
  | .txSettle => .eventInvoked
  | .txInhibit => .eventInvoked
  | .txStart => .eventInvoked
  | .txWaitLow => .eventInvoked
  | .txWaitHigh => .eventInvoked
  | .txAckWaitLow => .eventInvoked
  | .txAckWaitRelease => .eventInvoked
  | .txFail _ => .eventInvoked
  | .txSucceed => .eventInvoked
  | .mApply _ _ => .eventInvoked
  | .rBuild => .eventInvoked
  | .rDeliver => .eventInvoked
  | .rDeliverReq => .eventInvoked
  | .sCmd _ => .eventInvoked
  | .sStartup => .eventInvoked
  | .sLed => .eventInvoked
  | .ledIn _ => .eventInvoked
  | .sResend => .eventInvoked
  | .sLoop => .eventInvoked
  | .sSleep => .eventInvoked
  | .lineInit => .eventInvoked

end Sys2Proof
end

