-- ==== Sys2Proof/Machine/State.lean ====
section
/-! DEFINITION. The state of the block as plain data: every element of R20 and R57, the FG continuation of R44, the inputs of the step
relation and the outputs kept for observation; the reasons a step can stop; the state after reset. -/

namespace Sys2Proof.Machine

/-- `tx_phase` (R41). -/
inductive TxPhase where
  | idle
  | waitIdle
  | settle
  | inhibit
  | start
  | waitLow
  | waitHigh
  | ackWaitLow
  | ackWaitRelease
  | done
deriving DecidableEq, Repr

/-- `mode` (R42). -/
inductive Mode where
  | boot
  | run
  | failed
deriving DecidableEq, Repr

/-- `cmd_phase` (R43): C_IDLE, C_SEND, C_WAIT. -/
inductive CmdPhase where
  | idle
  | send
  | wait
deriving DecidableEq, Repr

/-- The position of FG in the pseudocode of S.STARTUP, S.LOOP, S.RESEND and S.LED (R44, R230, R233, R236, R238): the model's
names for its continuation points (log 9). -/
inductive FgPos where
  /-- the start of S.STARTUP, the position after reset (R291) -/
  | boot
  /-- S.STARTUP, before the byte with index `i` of `STARTUP_SEQ` -/
  | startup (i : Nat)
  /-- S.STARTUP, inside the S.CMD of the byte with index `i` -/
  | startupWait (i : Nat)
  /-- the top of a loop iteration -/
  | loopTop
  /-- S.RESEND, before the test of `resend_request` -/
  | resend
  /-- S.RESEND, the flag was read as 1: TX.WRITE(CMD_RESEND) is next -/
  | resendSend
  /-- S.RESEND, inside that write -/
  | resendWait
  /-- the drain loop: pop, translate, apply -/
  | drain
  /-- R.DELIVER on change -/
  | deliver
  /-- the test of `led_pending` -/
  | led
  /-- S.LED with u read: S.CMD(CMD_SET_LEDS) is next -/
  | ledSend (u : Byte)
  /-- S.LED, inside that S.CMD -/
  | ledWait (u : Byte)
  /-- S.LED, the command was acknowledged: S.CMD(LedRemap(u)) is next -/
  | ledArgSend (u : Byte)
  /-- S.LED, inside that S.CMD -/
  | ledArgWait
  /-- S.SLEEP -/
  | sleep
  /-- mode FAILED: the loop never runs (R231) -/
  | halted
deriving DecidableEq, Repr

/-- A fault of 60_exceptions.md R251 to R253 with the info the rule logs. Not a stop: `raise` appends it and goes on (R10). -/
inductive FaultEvent where
  | parityFault (b : Byte)
  | framingFault (b : Byte)
  | staleFrame (bitCount : BitVec 4)
  | queueOverflow (b : Byte)
  | txFault (f : TxFault)
  | unexpectedReply (b : Byte)
  | replyTimeout (b : Byte)
  | cmdExhausted (b : Byte)
  | initFatal (b : Byte)
deriving DecidableEq, Repr

/-- One action of the environment, or FG's turn (R11; log 4). -/
inductive Stimulus where
  /-- FG takes its next atomic step -/
  | fg
  /-- DEV sets its drive of the two lines (R23) -/
  | dev (clkLow dataLow : Bool)
  /-- DEV clocks eleven bits in a row; a PERIPHERAL delivers them as one frame (R116 `rxframe`, R143; log 28) -/
  | frame (w : BitVec 11)
  /-- MS: the millisecond clock advances by `n` (R22) -/
  | ms (n : Nat)
  /-- USB: `led_in(u)` (R25) -/
  | ledIn (u : Byte)
  /-- USB: `report_req` (R25) -/
  | reportReq
  /-- the receive interrupt or the millisecond tick ended a low-power wait (R27) -/
  | wake
  /-- the platform delivers the one edge latched in a write's suppression, if configured (R7 `RESTORE_SPURIOUS_EDGE`; log 18) -/
  | spuriousEdge
deriving DecidableEq, Repr

/-- A report value: eight bytes r[0]..r[7] (R69, R106). -/
structure Report where
  /-- r[0], the modifier bitmap -/
  modifiers : Byte
  /-- r[1], "always zero (reserved)" -/
  reserved : Byte
  /-- r[2]..r[7], the six key slots -/
  slot0 : Byte
  slot1 : Byte
  slot2 : Byte
  slot3 : Byte
  slot4 : Byte
  slot5 : Byte
deriving DecidableEq, Repr

/-- Eight bytes 0x00: the report of an empty matrix, the reset value of `last_report` (R52). -/
def Report.zero : Report := ⟨0, 0, 0, 0, 0, 0, 0, 0⟩

/-- The cells of the ring that were written, by index: strictly rising, no entry equal to what an unlisted cell reads as. -/
abbrev Memory := List Host.Cell

/-- What a cell that nothing has written reads as. The spec leaves it unspecified (R53, R57); DESIGN CHOICE 0x00, log 7. -/
def Memory.unlisted : Byte := 0x00

/-- The canonical form. -/
abbrev Memory.wf (m : Memory) : Prop :=
  m.Pairwise (fun x y => x.1 < y.1) ∧ ∀ x ∈ m, x.2 ≠ Memory.unlisted

/-- The inputs of the step relation (R22, R23) and the environment's coming actions. -/
structure Env where
  /-- `dev_clk_low` -/
  devClkLow : Bool
  /-- `dev_data_low` -/
  devDataLow : Bool
  /-- `ms_now` -/
  msNow : Nat
  /-- what happens next, oldest first; when empty FG moves (log 4) -/
  inputs : List Stimulus
deriving DecidableEq, Repr

/-- The host line-drive registers (R24). -/
structure Drive where
  /-- `host_clk_low` -/
  clkLow : Bool
  /-- `host_data_low` -/
  dataLow : Bool
deriving DecidableEq, Repr

/-- LineState and the suppression flag (R30 to R32, R40, R46). -/
structure Rx where
  /-- `rx_bit_count` -/
  bitCount : BitVec 4
  /-- `rx_data` -/
  data : Byte
  /-- `rx_parity` -/
  parity : Bool
  /-- `rx_last_bit_time` -/
  lastBitTime : Nat
  /-- `rx_suppressed` -/
  suppressed : Bool
deriving DecidableEq, Repr

/-- The ByteQueue (R35, R53, R61). -/
structure Queue where
  /-- `q_buf` -/
  buf : Memory
  /-- `q_wr` -/
  wr : Nat
  /-- `q_rd` -/
  rd : Nat
deriving DecidableEq, Repr

/-- The write-path registers (R33, R34, R41, R49). -/
structure Tx where
  /-- `tx_phase` -/
  phase : TxPhase
  /-- `tx_byte` -/
  byte : Byte
  /-- `tx_index` -/
  index : BitVec 4
  /-- `tx_t0` -/
  t0 : Nat
  /-- `tx_result` -/
  result : Bool
deriving DecidableEq, Repr

/-- TranslatorState (R47). -/
structure Translator where
  /-- `tr_release` -/
  release : Bool
  /-- `tr_extended` -/
  extended : Bool
  /-- `tr_special` -/
  special : Bool
deriving DecidableEq, Repr

/-- The registers of S.CMD (R36, R43, R255) and its continuation bit (R44). -/
structure Cmd where
  /-- `cmd_phase` -/
  phase : CmdPhase
  /-- `cmd_byte` -/
  byte : Byte
  /-- `cmd_attempts` -/
  attempts : Nat
  /-- `cmd_t0` -/
  t0 : Nat
  /-- the boolean result of the last S.CMD (R255) -/
  result : Bool
  /-- the call TX.WRITE(cmd_byte) is the next FG step (R44; log 9) -/
  writeDue : Bool
deriving DecidableEq, Repr

/-- What an observer saw: output events and the fault log. No operation reads it (R10, D27). -/
structure Observed where
  /-- `report_out` events, newest first -/
  reports : List Report
  /-- the fault log, newest first -/
  faults : List FaultEvent
deriving DecidableEq, Repr

/-- The whole machine. -/
structure State where
  /-- the configuration, never written (R50) -/
  cfg : Config
  env : Env
  drive : Drive
  rx : Rx
  /-- `resend_request` (R45) -/
  resendRequest : Bool
  q : Queue
  tx : Tx
  tr : Translator
  /-- `KM` (R51) -/
  km : Matrix
  /-- `last_report` (R52) -/
  lastReport : Report
  /-- the value the last R.BUILD returned (R69; log 9) -/
  built : Report
  /-- `mode` (R42) -/
  mode : Mode
  cmd : Cmd
  /-- `led_pending` (R48) -/
  ledPending : Bool
  /-- `led_usb` (R37) -/
  ledUsb : Byte
  /-- the position of FG (R44) -/
  fg : FgPos
  /-- the byte Q.POP returned, not yet translated (R44; log 9) -/
  popped : Option Byte
  /-- the event (id, is_release) the translator returned, not yet applied (R44, R102; log 9) -/
  event : Option (Byte × Bool)
  /-- an edge from the suppression of the write that ended last may still be delivered (the model's own field, read only where
  `RESTORE_SPURIOUS_EDGE` = `maybe`; log 18) -/
  edgeLatched : Bool
  out : Observed
deriving DecidableEq, Repr

/-- Why the machine stops with a fault. -/
inductive Fault where
  /-- Raised by TX.WRITE (and CMD.RESEND, which is that call) when a write is running: "may be started only when `tx_phase` is
  TX_IDLE or TX_DONE" (R151, D33). Safe: no step of FG does it from a state the machine reaches (log 19). -/
  | reentrantWrite
  /-- Raised where S.CMD is entered inside S.CMD: "S.CMD is not re-entered" (R269). Safe, as above (log 19). -/
  | reentrantCommand
deriving DecidableEq, Repr

/-- Why an operation is refused. -/
inductive Refusal where
  /-- An arm of `exec` that has no meaning yet. -/
  | notModelled (mnemonic : String)
  /-- Raised by `step` for a configuration against R8, R103 or R111: "the model has no meaning for such a configuration" (U14).
  Safe (log 16). -/
  | illFormedConfig
  /-- Raised by RX.STEP, and by FRAME11 for a sequence whose first bit is 1, in the build RX_IMPL = PERIPHERAL: "a model of
  bit-level behaviour should `refuse`" (U16). Safe (log 17). -/
  | peripheralBitLevel
  /-- Raised by `step` where a selector names no operation, and by RX.STEP for rx_bit_count 11..15: "unreachable" (R95).
  Safe (log 20). -/
  | selectorRejected
deriving DecidableEq, Repr

/-- What a step answers. -/
abbrev Outcome := Host.Outcome State Fault Refusal

/-- `init_failed` is 1 exactly when `mode` = FAILED (R26). -/
def State.initFailed (s : State) : Bool := decide (s.mode = .failed)

/-- The machine right after reset: the table of R57. Timestamps, ring cells and the model's continuation fields hold the
values named in INVENTORY.md (DESIGN CHOICE, log 5, 6, 7, 9); the configuration is R7's defaults (log 2). -/
def State.reset : State :=
  { cfg := .default
    env := { devClkLow := false, devDataLow := false, msNow := 0, inputs := [] }
    drive := { clkLow := false, dataLow := false }
    rx := { bitCount := 0, data := 0x00, parity := false, lastBitTime := 0, suppressed := true }
    resendRequest := false
    q := { buf := [], wr := 0, rd := 0 }
    tx := { phase := .idle, byte := 0x00, index := 0, t0 := 0, result := false }
    tr := { release := false, extended := false, special := false }
    km := 0
    lastReport := .zero
    built := .zero
    mode := .boot
    cmd := { phase := .idle, byte := 0x00, attempts := 0, t0 := 0, result := false, writeDue := false }
    ledPending := false
    ledUsb := 0x00
    fg := .boot
    popped := none
    event := none
    edgeLatched := false
    out := { reports := [], faults := [] } }

end Sys2Proof.Machine
end

