-- ==== Sys2Proof/Machine/Flags.lean ====
section
/-! DEFINITION. The flag computations: derived line levels, the parity accumulator, the resend flag, the translator's three flags. -/

namespace Sys2Proof.Machine

/-- `clk = not (host_clk_low or dev_clk_low)` (R9, R21). -/
def State.clk (s : State) : Bool := !(s.drive.clkLow || s.env.devClkLow)

/-- `data = not (host_data_low or dev_data_low)` (R9, R21). -/
def State.data (s : State) : Bool := !(s.drive.dataLow || s.env.devDataLow)

/-- `rx_parity <- rx_parity xor d` (R31, R112). -/
def parityStep (p d : Bool) : Bool := p ^^ d

/-- The verdict at the stop bit: stop 1 and accumulated parity 1 (R136). -/
def stopValid (parity d : Bool) : Bool := d && parity

/-- `resend_request <- v` (R45). -/
def setResend (v : Bool) (s : State) : State := { s with resendRequest := v }

/-- All three pending flags 0 (R47, R187). -/
def Translator.neutral : Translator := { release := false, extended := false, special := false }

/-- The level the host puts on the data line to send `v`: `host_data_low <- not v` (R96). -/
def driveBit (v : Bool) : Bool := !v

/-- `host_data_low` after device clock pulse number `k` of a write of `b`: data bit k-1, parity at 9, stop at 10; unchanged
at any other number (R159). -/
def dataDriveAt (b : Byte) (k : BitVec 4) (old : Bool) : Bool :=
  if 1 ≤ k.toNat ∧ k.toNat ≤ 8 then driveBit (b.getLsbD (k.toNat - 1))
  else if k.toNat = 9 then driveBit (parityBit b)
  else if k.toNat = 10 then driveBit true
  else old

end Sys2Proof.Machine
end

