-- ==== Sys2Proof/Machine/Ops.lean ====
section
/-! DEFINITION. The named operations over the state: the ring's cells, the fault log, the queue (R62, R63), the stale test (R131),
the bus-idle test (R152), the start and the two ends of a write (R151, R167, R168), the attempt block of S.CMD (R221). -/

namespace Sys2Proof.Machine

/-! ### Cells of the ring -/

/-- The byte in cell `a`. -/
def Memory.read (m : Memory) (a : Nat) : Byte :=
  match m with
  | [] => Memory.unlisted
  | x :: rest => if x.1 = a then x.2 else Memory.read rest a

/-- The list without the entry of cell `a`. -/
def Memory.erase (m : Memory) (a : Nat) : Memory :=
  match m with
  | [] => []
  | x :: rest => if x.1 = a then rest else x :: Memory.erase rest a

/-- The entry of cell `a` set to `b`, in its place by index. -/
def Memory.insert (m : Memory) (a : Nat) (b : Byte) : Memory :=
  match m with
  | [] => [(a, b)]
  | x :: rest =>
    if x.1 < a then x :: Memory.insert rest a b
    else if x.1 = a then (a, b) :: rest
    else (a, b) :: x :: rest

/-- Cell `a` written with `b`, in canonical form: the value an unlisted cell reads as is not listed. -/
def Memory.write (m : Memory) (a : Nat) (b : Byte) : Memory :=
  if b = Memory.unlisted then Memory.erase m a else Memory.insert m a b

/-! ### Faults and outputs -/

/-- `raise`: the one way a fault is taken. It appends to the fault log and goes on; it transfers no control (R10, R267). -/
def State.raise (s : State) (f : FaultEvent) : State :=
  { s with out := { s.out with faults := f :: s.out.faults } }

/-- `emit report_out(r)`, and `last_report <- r` (R52, R208, R209). -/
def State.deliver (s : State) (r : Report) : State :=
  { s with lastReport := r, out := { s.out with reports := r :: s.out.reports } }

/-- One operation after another. -/
def andThen (o : Outcome) (f : State → Outcome) : Outcome :=
  match o with
  | .next s => f s
  | .fault r => .fault r
  | .refused r => .refused r

/-! ### The ByteQueue -/

/-- The queue is empty exactly when `q_wr = q_rd` (R35, R61). -/
def State.queueEmpty (s : State) : Bool := decide (s.q.wr = s.q.rd)

/-- Full: `(q_wr + 1) mod N = q_rd` (R61). -/
def State.queueFull (s : State) : Bool := decide (nextSlot s.cfg s.q.wr = s.q.rd)

/-- `QueuePush(b)` (R62). Indices are taken modulo N (R73; log 8). -/
def queuePush (b : Byte) (s : State) : State :=
  if s.queueFull then s.raise (.queueOverflow b)
  else
    { s with q := { s.q with
      buf := s.q.buf.write (s.q.wr % s.cfg.queueSlots) b
      wr := nextSlot s.cfg s.q.wr } }

/-- The byte `QueuePop` would return: none when empty (R63). -/
def State.queueHead (s : State) : Option Byte :=
  if s.queueEmpty then none else some (s.q.buf.read (s.q.rd % s.cfg.queueSlots))

/-- The state after `QueuePop` (R63): the cursor moves past the byte, nothing changes when empty. -/
def queueDrop (s : State) : State :=
  if s.queueEmpty then s else { s with q := { s.q with rd := nextSlot s.cfg s.q.rd } }

/-! ### Receive -/

/-- `RX.STALE(now)` (R131). -/
def rxStale (s : State) : State :=
  if s.rx.bitCount ≠ 0 ∧ expired s.cfg s.cfg.tStaleMs s.rx.lastBitTime s.env.msNow then
    let s1 := s.raise (.staleFrame s.rx.bitCount)
    { s1 with rx := { s1.rx with bitCount := 0 } }
  else s

/-- A bit of a frame was accepted: the time is kept, the count set (R32, R132 to R136). -/
def acceptBit (count : BitVec 4) (s : State) : State :=
  { s with rx := { s.rx with lastBitTime := s.env.msNow, bitCount := count } }

/-- Valid frame (R137): push the byte, clear `resend_request` even if the push is dropped. -/
def frameGood (b : Byte) (s : State) : State := setResend false (queuePush b s)

/-- Faulty frame (R138, R262): parity fault first, then framing fault; the byte is discarded and `resend_request` set. -/
def frameBad (b : Byte) (parityBad stopBad : Bool) (s : State) : State :=
  let s1 := if parityBad then s.raise (.parityFault b) else s
  let s2 := if stopBad then s1.raise (.framingFault b) else s1
  setResend true s2

/-! ### Write -/

/-- The phases in which a write may be started (R151). -/
def TxPhase.atRest : TxPhase → Bool
  | .idle => true
  | .done => true
  | .waitIdle => false
  | .settle => false
  | .inhibit => false
  | .start => false
  | .waitLow => false
  | .waitHigh => false
  | .ackWaitLow => false
  | .ackWaitRelease => false

/-- `tx_phase <- p`. -/
def setTxPhase (p : TxPhase) (s : State) : State := { s with tx := { s.tx with phase := p } }

/-- `TX.WRITE(b)`, invocation (R151). -/
def txBegin (b : Byte) (s : State) : Outcome :=
  if s.tx.phase.atRest then
    .next { s with tx := { s.tx with byte := b, index := 0, t0 := s.env.msNow, phase := .waitIdle } }
  else .fault .reentrantWrite

/-- `BusIdle(now)`, the test, on the state after `RX.STALE` (R152). -/
def busIdle (s : State) : Bool := s.clk && s.data && decide (s.rx.bitCount = 0)

/-- Release both lines and restore the receive handler (R167, R168, R292). -/
def releaseBus (s : State) : State :=
  { s with drive := { clkLow := false, dataLow := false }, rx := { s.rx with suppressed := false } }

/-- Step 6 of a write: lines released, handler restored, result stored, `TX_DONE` (R167, R168). A write that had suppressed
the handler may have left one edge latched (D15, log 18). -/
def txFinish (ok : Bool) (s : State) : State :=
  let s1 := releaseBus s
  { s1 with tx := { s1.tx with result := ok, phase := .done }, edgeLatched := s.rx.suppressed }

/-- `Fail(f)` (R167). -/
def txFail (f : TxFault) (s : State) : State := txFinish false (s.raise (.txFault f))

/-- Past the deadline of the write's current wait? (R153, R159, R162) -/
def txExpired (limit : Nat) (s : State) : Bool := expired s.cfg limit s.tx.t0 s.env.msNow

/-! ### S.CMD -/

/-- The block `attempt:` (R221, R222, R228): give up after `CMD_MAX_ATTEMPTS`, else count the attempt; TX.WRITE is called next. -/
def cmdAttempt (s : State) : State :=
  if s.cmd.attempts = s.cfg.cmdMaxAttempts then
    let s1 := s.raise (.cmdExhausted s.cmd.byte)
    { s1 with cmd := { s1.cmd with phase := .idle, result := false } }
  else
    { s with cmd := { s.cmd with attempts := s.cmd.attempts + 1, phase := .send, writeDue := true } }

/-- `S.CMD(b)`, entry (R221). -/
def cmdBegin (b : Byte) (s : State) : Outcome :=
  if s.cmd.phase = .idle then .next (cmdAttempt { s with cmd := { s.cmd with byte := b, attempts := 0 } })
  else .fault .reentrantCommand

/-- After TX.WRITE (R221, R223): a failed write starts the next attempt at once, a good one starts the reply wait. While the
write still runs S.CMD stays where it is. -/
def cmdAfterWrite (s : State) : State :=
  if s.tx.phase = .done then
    if s.tx.result then { s with cmd := { s.cmd with t0 := s.env.msNow, phase := .wait } }
    else cmdAttempt s
  else s

/-- Reply `ACK_BYTE` (R225). -/
def replyAck (s : State) : State := { s with cmd := { s.cmd with phase := .idle, result := true } }

/-- Any other byte (R226). -/
def replyOther (b : Byte) (s : State) : State := cmdAttempt (s.raise (.unexpectedReply b))

/-- No byte in the queue at this poll (R227). -/
def replyNone (s : State) : State :=
  if expired s.cfg s.cfg.tReplyMs s.cmd.t0 s.env.msNow then cmdAttempt (s.raise (.replyTimeout s.cmd.byte))
  else s

end Sys2Proof.Machine
end

