-- ==== Sys2Proof/Machine/Queue.lean ====
section
/-! DEFINITION. The operations of the ByteQueue (20_memory.md). -/

namespace Sys2Proof.Machine

/-- Q.PUSH (R62). -/
def execQPush (b : Byte) (s : State) : Outcome := .next (queuePush b s)

/-- Q.POP (R63): what it returns stands in `popped`. -/
def execQPop (s : State) : Outcome := .next { queueDrop s with popped := s.queueHead }

end Sys2Proof.Machine
end

