-- ==== Sys2Proof/Machine/Report.lean ====
section
/-! DEFINITION. The Key-State Matrix and the Report Builder (43_matrix_report.md, 30_encoding.md R102, R106 to R108). -/

namespace Sys2Proof.Machine

/-! ### The report value -/

/-- `r[i]`, 0x00 outside 0..7 (R69). -/
def Report.byte (r : Report) (i : Nat) : Byte :=
  match i with
  | 0 => r.modifiers
  | 1 => r.reserved
  | 2 => r.slot0
  | 3 => r.slot1
  | 4 => r.slot2
  | 5 => r.slot3
  | 6 => r.slot4
  | 7 => r.slot5
  | _ => 0x00

/-- `r[2 + k] = b` (R203); nothing for k > 5. -/
def Report.setSlot (r : Report) (k : Nat) (b : Byte) : Report :=
  match k with
  | 0 => { r with slot0 := b }
  | 1 => { r with slot1 := b }
  | 2 => { r with slot2 := b }
  | 3 => { r with slot3 := b }
  | 4 => { r with slot4 := b }
  | 5 => { r with slot5 := b }
  | _ => r

/-- All `n` slots `b` (R108). -/
def Report.fillSlots (r : Report) (n : Nat) (b : Byte) : Report :=
  (List.range n).foldl (fun r k => r.setSlot k b) r

/-- `ModByte(KM)`: bit i = `KM[0xE0 + i]` (R107). -/
def modByte (km : Matrix) : Byte := km.extractLsb' 0xE0 8

/-- The identifiers that can hold a slot: 0x01..0xFF without the modifier range (R108, R203, D19). -/
def slotKey (i : Nat) : Bool := decide (1 ≤ i ∧ ¬ (0xE0 ≤ i ∧ i ≤ 0xE7))

/-- H: the held non-modifier identifiers, ascending (R108). -/
def heldKeys (km : Matrix) : List Nat := (List.range 256).filter (fun i => slotKey i && km.getLsbD i)

/-- The byte of slot k (R108), `REPORT_SLOTS` in the place of six; a byte of the format behind the last slot is 0x00 (log 30). -/
def slotByte (c : Config) (h : List Nat) (k : Nat) : Byte :=
  if k < c.reportSlots then
    if h.length ≤ c.reportSlots then BitVec.ofNat 8 (h[k]?.getD 0) else c.rolloverSentinel
  else 0x00

/-- REPORT8 of a matrix, as the format states it: modifier byte, zero, slots by R108 (R106). -/
def reportOf (c : Config) (km : Matrix) : Report :=
  let h := heldKeys km
  { modifiers := modByte km
    reserved := 0x00
    slot0 := slotByte c h 0
    slot1 := slotByte c h 1
    slot2 := slotByte c h 2
    slot3 := slotByte c h 3
    slot4 := slotByte c h 4
    slot5 := slotByte c h 5 }

/-- The running values n and r of R.BUILD's scan (R203). -/
structure Scan where
  n : Nat
  r : Report
deriving DecidableEq, Repr

/-- The scan's body at index i (R203), with `slots` slots. -/
def scanStep (slots : Nat) (km : Matrix) (acc : Scan) (i : Nat) : Scan :=
  if slotKey i && km.getLsbD i then
    { n := acc.n + 1, r := if acc.n < slots then acc.r.setSlot acc.n (BitVec.ofNat 8 i) else acc.r }
  else acc

/-- The scan over 0x01..0xFF ascending (R203). -/
def scanMatrix (slots : Nat) (km : Matrix) : Scan :=
  (List.range' 1 255).foldl (scanStep slots km) { n := 0, r := { Report.zero with modifiers := modByte km, reserved := 0x00 } }

/-- `for k = n .. slots - 1: r[2 + k] = 0x00` (R203). -/
def padSlots (slots n : Nat) (r : Report) : Report :=
  (List.range slots).foldl (fun r k => if n ≤ k then r.setSlot k 0x00 else r) r

/-- `R.BUILD` as the scan of R203. -/
def buildReport (c : Config) (km : Matrix) : Report :=
  let acc := scanMatrix c.reportSlots km
  let r := padSlots c.reportSlots acc.n acc.r
  if acc.n > c.reportSlots then r.fillSlots c.reportSlots c.rolloverSentinel else r

/-! ### The operations -/

/-- The event rule: flip the bit if it equals is_release (R201). -/
def applyEvent (id : Byte) (rel : Bool) (km : Matrix) : Matrix :=
  if km.getLsbD id.toNat = rel then setBit km id.toNat (!rel) else km

/-- M.APPLY(id, rel) (R201). -/
def execMApply (id : Byte) (rel : Bool) (s : State) : Outcome := .next { s with km := applyEvent id rel s.km }

/-- EVENT (R102): the pair (id, is_release) is the translator's result, to be applied (log 15). -/
def execEvent (rel : Bool) (id : Byte) (s : State) : Outcome := .next { s with event := some (id, rel) }

/-- REPORT8 (R106 to R108): the eight bytes the format gives the present matrix (log 15). -/
def execReport8 (s : State) : Outcome := .next { s with built := reportOf s.cfg s.km }

/-- ROLLOVER_SENTINEL (R108): the sentinel in all the slots of the report under construction; byte 0 and byte 1 stay (log 15). -/
def execRolloverSentinel (s : State) : Outcome :=
  .next { s with built := s.built.fillSlots s.cfg.reportSlots s.cfg.rolloverSentinel }

/-- R.BUILD (R203): what it returns stands in `built`; nothing else changes. -/
def execRBuild (s : State) : Outcome := .next { s with built := buildReport s.cfg s.km }

/-- R.DELIVER on change (R208). -/
def execRDeliver (s : State) : Outcome :=
  let r := buildReport s.cfg s.km
  if r ≠ s.lastReport then .next (s.deliver r) else .next s

/-- R.DELIVER on request (R209). -/
def execRDeliverReq (s : State) : Outcome := .next (s.deliver (buildReport s.cfg s.km))

end Sys2Proof.Machine
end

