-- ==== Sys2Proof/Machine/Rx.lean ====
section
/-! DEFINITION. The operations of the receive handler (40_line_rx.md): one falling edge of `clk`. -/

namespace Sys2Proof.Machine

/-- RX.STALE (R131). -/
def execRxStale (s : State) : Outcome := .next (rxStale s)

/-- RX.START (R132). -/
def execRxStart (s : State) : Outcome :=
  let s1 := acceptBit 1 s
  .next { s1 with rx := { s1.rx with data := 0x00, parity := false } }

/-- RX.SPURIOUS (R133): nothing changes, not even `rx_last_bit_time` (D6). -/
def execRxSpurious (s : State) : Outcome := .next s

/-- RX.DATA(d, now) with `rx_bit_count` = k (R134). -/
def execRxData (k : BitVec 4) (d : Bool) (s : State) : Outcome :=
  let s1 := acceptBit (k + 1) s
  .next { s1 with rx := { s1.rx with
    data := setBit s.rx.data (k.toNat - 1) d
    parity := parityStep s.rx.parity d } }

/-- RX.PARITY(d, now) (R135). -/
def execRxParity (d : Bool) (s : State) : Outcome :=
  let s1 := acceptBit 10 s
  .next { s1 with rx := { s1.rx with parity := parityStep s.rx.parity d } }

/-- RX.STOP(d, now) (R136): the frame is over in every case; R137 if it is valid, R138 if not. -/
def execRxStop (d : Bool) (s : State) : Outcome :=
  let s1 := acceptBit 0 s
  if stopValid s.rx.parity d then .next (frameGood s.rx.data s1)
  else .next (frameBad s.rx.data (!s.rx.parity) (!d) s1)

/-- The dispatch of an unmasked edge with level `d`, after RX.STALE (R130, R95). -/
def rxDispatch (d : Bool) (s : State) : Outcome :=
  if s.rx.bitCount.toNat = 0 then (if d then execRxSpurious s else execRxStart s)
  else if s.rx.bitCount.toNat ≤ 8 then execRxData s.rx.bitCount d s
  else if s.rx.bitCount.toNat = 9 then execRxParity d s
  else if s.rx.bitCount.toNat = 10 then execRxStop d s
  else .refused .selectorRejected

/-- One falling edge with sampled level `d` (R130): lost when suppressed, else RX.STALE first, then the selector (R260).
In the PERIPHERAL build there is no edge handler (R143, U16; log 17). -/
def rxEdge (d : Bool) (s : State) : Outcome :=
  if s.rx.suppressed then .next s
  else
    match s.cfg.rxImpl with
    | .edge => rxDispatch d (rxStale s)
    | .peripheral => .refused .peripheralBitLevel

/-- RX.STEP (R130): the interrupt. Entry saves and changes nothing, the return restores nothing (R266, R268). -/
def execRxStep (s : State) : Outcome := rxEdge s.data s

/-- Falling edges one after another with the levels `ds`, all at the present `ms_now` (R116 `rxframe` with gap 0). -/
def rxEdges (ds : List Bool) (s : State) : Outcome :=
  match ds with
  | [] => .next s
  | d :: rest => andThen (rxEdge d s) (rxEdges rest)

/-- The frame-level contract of the PERIPHERAL build (R143): R137 for a valid frame, R138 at frame granularity for one that
fails parity or stop; what it does with a first bit 1 is not in the source (N7). -/
def peripheralFrame (w : BitVec 11) (s : State) : Outcome :=
  if s.rx.suppressed then .next s
  else if w.getLsbD 0 then .refused .peripheralBitLevel
  else if frameParityOk w && w.getLsbD 10 then .next (frameGood (frameByte w) s)
  else .next (frameBad (frameByte w) (!frameParityOk w) (!w.getLsbD 10) s)

/-- FRAME11: eleven sampled bits reach the receive path (R91, R93, R139). -/
def execFrame11 (w : BitVec 11) (s : State) : Outcome :=
  match s.cfg.rxImpl with
  | .edge => rxEdges (frameBits w) s
  | .peripheral => peripheralFrame w s

end Sys2Proof.Machine
end

