-- ==== Sys2Proof/WellFormed.lean ====
section
/-! DEFINITION. Which operations the encodings admit under a configuration: the ranges the opcode table's rows state. -/

namespace Sys2Proof

open Sys2Proof.Machine (frameValid classify)

/-- The operation is one the spec's encodings can name under configuration `c`. -/
def WellFormed (c : Config) : Instr → Bool
  -- "constrained to 1..8" (RX.DATA)
  | .rxData k _ => decide (1 ≤ k.toNat ∧ k.toNat ≤ 8)
  -- a valid frame (R93)
  | .frame11 w => frameValid w
  -- the two release rows name their code set
  | .tRelease => decide (c.codeSet = .set3)
  | .tReleaseSetX => decide (c.codeSet = .setX)
  | .tExt b => decide (classify c b = .extended)
  | .tSpecial => c.active.specialPrefix.isSome
  -- T.KEY[0x1C] is code set 3's; the byte has that row there and T.KEY elsewhere
  | .tKey b => decide (classify c b = .key) && !(decide (c.codeSet = .set3) && decide (b = 0x1C))
  | .tKey1C => decide (c.codeSet = .set3) && decide (classify c 0x1C = .key)
  -- "any value other than ACK_BYTE and RESEND_BYTE"
  | .replyOther b => decide (b ≠ c.ackByte) && decide (b ≠ c.resendByte)
  -- STARTUP_SEQ[0], STARTUP_SEQ[2]: present in this deployment variant
  | .cmdSelectCodeSet => c.startupSeq[0]?.isSome
  | .cmdDisableTypematic => c.startupSeq[2]?.isSome
  -- "KeyIdentifier 0x01..0xE7" (R102, R201)
  | .event _ id => isKeyId id
  | .mApply id _ => isKeyId id
  | .rxStart => true
  | .rxSpurious => true
  | .rxParity _ => true
  | .rxStop _ => true
  | .rxStale => true
  | .rxStep => true
  | .txLineAck _ => true
  | .qPush _ => true
  | .qPop => true
  | .translate _ => true
  | .replyAck => true
  | .replyResend => true
  | .replyNone => true
  | .cmdResend => true
  | .cmdSetLeds => true
  | .ledUsb _ => true
  | .ledLegacy _ _ _ => true
  | .report8 => true
  | .rolloverSentinel => true
  | .txWrite _ => true
  | .txWaitIdle => true
  | .txSettle => true
  | .txInhibit => true
  | .txStart => true
  | .txWaitLow => true
  | .txWaitHigh => true
  | .txAckWaitLow => true
  | .txAckWaitRelease => true
  | .txFail _ => true
  | .txSucceed => true
  | .rBuild => true
  | .rDeliver => true
  | .rDeliverReq => true
  | .sCmd _ => true
  | .sStartup => true
  | .sLed => true
  | .ledIn _ => true
  | .sResend => true
  | .sLoop => true
  | .sSleep => true
  | .lineInit => true

end Sys2Proof
end

