-- ==== Sys2Proof/Decode.lean ====
section
/-! DEFINITION. The decoder: from a selector to an operation, total, rejecting by name; after it the encoder, and the reading of
a bare word of the opcode table. -/

namespace Sys2Proof

open Sys2Proof.Machine (frameOf frameBits frameByte frameParityOk frameValid classify ledLegacyByte)

/-- Why a selector names no operation. -/
inductive Reject where
  /-- RXSEL with rx_bit_count 11..15: "unreachable" (R95) -/
  | rxselUnreachable
  /-- wire bit 0 is 1: "not a frame at all" (R93) -/
  | notAFrame
  /-- wire bits 1..9 have even parity (R93) -/
  | frameParity
  /-- wire bit 10 is 0 (R93) -/
  | frameStop
  /-- not the byte this sender sends under this configuration (R104) -/
  | notThatCommand
  /-- bits 3..7 of an LED_LEGACY byte are written as 0 (R105) -/
  | ledReservedBits
  /-- id 0x00 or above 0xE7 in an event (R102) -/
  | notAKey
  /-- not `ROLLOVER_SENTINEL` (R108) -/
  | notTheSentinel
  /-- an event-invoked row with an operand it does not take -/
  | operandBits
deriving DecidableEq, Repr

/-- What the decoder answers. -/
inductive Decoded where
  | ok (i : Instr)
  | reject (r : Reject)
deriving DecidableEq, Repr

/-- RXSEL: the selector is {rx_bit_count[3:0], d} (R95). -/
def decodeRxsel (w : BitVec 5) : Decoded :=
  let k : BitVec 4 := w.extractLsb' 1 4
  let d : Bool := w.getLsbD 0
  if k.toNat = 0 then .ok (if d then .rxSpurious else .rxStart)
  else if k.toNat ≤ 8 then .ok (.rxData k d)
  else if k.toNat = 9 then .ok (.rxParity d)
  else if k.toNat = 10 then .ok (.rxStop d)
  else .reject .rxselUnreachable

/-- FRAME11: only a valid frame is an encoding (R93, R94). -/
def decodeFrame (w : BitVec 11) : Decoded :=
  if w.getLsbD 0 then .reject .notAFrame
  else if !frameParityOk w then .reject .frameParity
  else if !w.getLsbD 10 then .reject .frameStop
  else .ok (.frame11 w)

/-- BYTECLASS (R100); the rows T.RELEASE and T.KEY[0x1C] are code set 3's. -/
def decodeByte (c : Config) (b : Byte) : Decoded :=
  match classify c b with
  | .release => .ok (match c.codeSet with | .set3 => .tRelease | .setX => .tReleaseSetX)
  | .extended => .ok (.tExt b)
  | .special => .ok .tSpecial
  | .key => .ok (if c.codeSet = .set3 ∧ b = 0x1C then .tKey1C else .tKey b)

/-- REPLY (R103). -/
def decodeReply (c : Config) (b : Byte) : Decoded :=
  if b = c.ackByte then .ok .replyAck
  else if b = c.resendByte then .ok .replyResend
  else .ok (.replyOther b)

/-- The byte a sender sends (R104, the "parameter" column of the CMD rows); none where the variant has no such command. -/
def commandByte (c : Config) : CmdRole → Option Byte
  | .resend => some c.cmdResend
  | .setLeds => some c.cmdSetLeds
  | .selectCodeSet => c.startupSeq[0]?
  | .disableTypematic => c.startupSeq[2]?

/-- The CMD row of a sender. -/
def commandInstr : CmdRole → Instr
  | .resend => .cmdResend
  | .setLeds => .cmdSetLeds
  | .selectCodeSet => .cmdSelectCodeSet
  | .disableTypematic => .cmdDisableTypematic

/-- CMD (R104). -/
def decodeCommand (c : Config) (role : CmdRole) (b : Byte) : Decoded :=
  if commandByte c role = some b then .ok (commandInstr role) else .reject .notThatCommand

/-- LED_LEGACY, 00000cns (R105). -/
def decodeLedLegacy (b : Byte) : Decoded :=
  if b.extractLsb' 3 5 = 0#5 then .ok (.ledLegacy (b.getLsbD 2) (b.getLsbD 1) (b.getLsbD 0))
  else .reject .ledReservedBits

/-- The id and is_release of a nine-bit event word (R102). -/
def eventId (w : BitVec 9) : Byte := w.extractLsb' 0 8
def eventRel (w : BitVec 9) : Bool := w.getLsbD 8

/-- The nine-bit event word (R102). -/
def eventWord (rel : Bool) (id : Byte) : BitVec 9 := (BitVec.ofBool rel ++ id).cast (by decide)

/-- A byte operand in the operand field. -/
def byteOperand (b : Byte) : BitVec 9 := b.zeroExtend 9

/-- The operand of TX.FAIL (R167). -/
def txFaultCode : TxFault → BitVec 9
  | .busBusy => 0
  | .clockTimeout => 1
  | .noAck => 2
  | .ackTimeout => 3

/-- The rows that take a byte (Q.PUSH, Translate, TX.WRITE, S.CMD, LED_IN): bit 8 of the operand field is 0. -/
def decodeByteOperand (f : Byte → Instr) (x : BitVec 9) : Decoded :=
  if x.getLsbD 8 then .reject .operandBits else .ok (f (x.extractLsb' 0 8))

/-- The rows without an operand. -/
def decodeNoOperand (i : Instr) (x : BitVec 9) : Decoded :=
  if x = 0 then .ok i else .reject .operandBits

/-- The rows "not selected by bits" (R118): selected by the event's name. -/
def decodeInvoked (row : EventRow) (x : BitVec 9) : Decoded :=
  match row with
  | .qPush => decodeByteOperand .qPush x
  | .translate => decodeByteOperand .translate x
  | .txWrite => decodeByteOperand .txWrite x
  | .sCmd => decodeByteOperand .sCmd x
  | .ledIn => decodeByteOperand .ledIn x
  | .mApply => if isKeyId (eventId x) then .ok (.mApply (eventId x) (eventRel x)) else .reject .notAKey
  | .txFail =>
    if x = txFaultCode .busBusy then .ok (.txFail .busBusy)
    else if x = txFaultCode .clockTimeout then .ok (.txFail .clockTimeout)
    else if x = txFaultCode .noAck then .ok (.txFail .noAck)
    else if x = txFaultCode .ackTimeout then .ok (.txFail .ackTimeout)
    else .reject .operandBits
  | .rxStale => decodeNoOperand .rxStale x
  | .rxStep => decodeNoOperand .rxStep x
  | .qPop => decodeNoOperand .qPop x
  | .replyNone => decodeNoOperand .replyNone x
  | .report8 => decodeNoOperand .report8 x
  | .txWaitIdle => decodeNoOperand .txWaitIdle x
  | .txSettle => decodeNoOperand .txSettle x
  | .txInhibit => decodeNoOperand .txInhibit x
  | .txStart => decodeNoOperand .txStart x
  | .txWaitLow => decodeNoOperand .txWaitLow x
  | .txWaitHigh => decodeNoOperand .txWaitHigh x
  | .txAckWaitLow => decodeNoOperand .txAckWaitLow x
  | .txAckWaitRelease => decodeNoOperand .txAckWaitRelease x
  | .txSucceed => decodeNoOperand .txSucceed x
  | .rBuild => decodeNoOperand .rBuild x
  | .rDeliver => decodeNoOperand .rDeliver x
  | .rDeliverReq => decodeNoOperand .rDeliverReq x
  | .sStartup => decodeNoOperand .sStartup x
  | .sLed => decodeNoOperand .sLed x
  | .sResend => decodeNoOperand .sResend x
  | .sLoop => decodeNoOperand .sLoop x
  | .sSleep => decodeNoOperand .sSleep x
  | .lineInit => decodeNoOperand .lineInit x

/-- The decoder, total on every selector. -/
def decode (c : Config) : Selector → Decoded
  | .rxsel w => decodeRxsel w
  | .frame11 w => decodeFrame w
  | .lineAck w => .ok (.txLineAck (w.getLsbD 0))
  | .byteClass b => decodeByte c b
  | .reply b => decodeReply c b
  | .cmd role b => decodeCommand c role b
  | .ledUsb b => .ok (.ledUsb b)
  | .ledLegacy b => decodeLedLegacy b
  | .event w => if isKeyId (eventId w) then .ok (.event (eventRel w) (eventId w)) else .reject .notAKey
  | .report8 b => if b = c.rolloverSentinel then .ok .rolloverSentinel else .reject .notTheSentinel
  | .invoked row x => decodeInvoked row x

/-! ### The encoder, from the same tables -/

/-- {k, d} (R95). -/
def rxselWord (k : BitVec 4) (d : Bool) : BitVec 5 := (k ++ BitVec.ofBool d).cast (by decide)

/-- The byte of a sender, 0x00 where the variant has none (such a term is not well formed). -/
def commandByteOrZero (c : Config) (role : CmdRole) : Byte := (commandByte c role).getD 0x00

/-- The selector of an operation, row by row of the opcode table. -/
def encode (c : Config) : Instr → Selector
  | .rxStart => .rxsel (rxselWord 0 false)
  | .rxSpurious => .rxsel (rxselWord 0 true)
  | .rxData k d => .rxsel (rxselWord k d)
  | .rxParity d => .rxsel (rxselWord 9 d)
  | .rxStop d => .rxsel (rxselWord 10 d)
  | .rxStale => .invoked .rxStale 0
  | .rxStep => .invoked .rxStep 0
  | .frame11 w => .frame11 w
  | .txLineAck a => .lineAck (BitVec.ofBool a)
  | .qPush b => .invoked .qPush (byteOperand b)
  | .qPop => .invoked .qPop 0
  | .tRelease => .byteClass c.active.releasePrefix
  | .tReleaseSetX => .byteClass c.active.releasePrefix
  | .tExt b => .byteClass b
  | .tSpecial => .byteClass (c.active.specialPrefix.getD 0x00)
  | .tKey b => .byteClass b
  | .tKey1C => .byteClass 0x1C
  | .translate b => .invoked .translate (byteOperand b)
  | .replyAck => .reply c.ackByte
  | .replyResend => .reply c.resendByte
  | .replyOther b => .reply b
  | .replyNone => .invoked .replyNone 0
  | .cmdResend => .cmd .resend (commandByteOrZero c .resend)
  | .cmdSetLeds => .cmd .setLeds (commandByteOrZero c .setLeds)
  | .cmdSelectCodeSet => .cmd .selectCodeSet (commandByteOrZero c .selectCodeSet)
  | .cmdDisableTypematic => .cmd .disableTypematic (commandByteOrZero c .disableTypematic)
  | .ledUsb u => .ledUsb u
  | .ledLegacy cl nl sl => .ledLegacy (ledLegacyByte cl nl sl)
  | .event rel id => .event (eventWord rel id)
  | .report8 => .invoked .report8 0
  | .rolloverSentinel => .report8 c.rolloverSentinel
  | .txWrite b => .invoked .txWrite (byteOperand b)
  | .txWaitIdle => .invoked .txWaitIdle 0
  | .txSettle => .invoked .txSettle 0
  | .txInhibit => .invoked .txInhibit 0
  | .txStart => .invoked .txStart 0
  | .txWaitLow => .invoked .txWaitLow 0
  | .txWaitHigh => .invoked .txWaitHigh 0
  | .txAckWaitLow => .invoked .txAckWaitLow 0
  | .txAckWaitRelease => .invoked .txAckWaitRelease 0
  | .txFail f => .invoked .txFail (txFaultCode f)
  | .txSucceed => .invoked .txSucceed 0
  | .mApply id rel => .invoked .mApply (eventWord rel id)
  | .rBuild => .invoked .rBuild 0
  | .rDeliver => .invoked .rDeliver 0
  | .rDeliverReq => .invoked .rDeliverReq 0
  | .sCmd b => .invoked .sCmd (byteOperand b)
  | .sStartup => .invoked .sStartup 0
  | .sLed => .invoked .sLed 0
  | .ledIn u => .invoked .ledIn (byteOperand u)
  | .sResend => .invoked .sResend 0
  | .sLoop => .invoked .sLoop 0
  | .sSleep => .invoked .sSleep 0
  | .lineInit => .invoked .lineInit 0

/-! ### A bare word of the opcode table (log 14)

The table's words belong to different formats and several share a value, so a word alone does not say its format; the
reading below fixes one for each word, by the value ranges of the rows. -/

/-- Is `w` a word of the five-bit RXSEL rows? Bits 9 and 10, which the table's reader lists as fields of RX.PARITY and RX.STOP,
are no bits of the selector ("where they and the spec's own words differ, the spec's words are right"). -/
def isRxselWord (w : Nat) : Bool :=
  decide (w < 0x16 ∨ w = 0x212 ∨ w = 0x213 ∨ w = 0x414 ∨ w = 0x415)

/-- The selector a bare eight-bit word is read as: RXSEL below 0x16; the reply and command values of R7's defaults; every
other byte as the translator's. -/
def byteWordSelector (w : Nat) : Selector :=
  let b := BitVec.ofNat 8 w
  if w < 0x16 then .rxsel (BitVec.ofNat 5 w)
  else if b = 0xFA ∨ b = 0xFE then .reply b
  else if b = 0xED then .cmd .setLeds b
  else if b = 0xF8 then .cmd .disableTypematic b
  else .byteClass b

/-- The selector a bare word of `nbits` bits is read as. -/
def tableSelector (nbits w : Nat) : Option Selector :=
  if nbits ≤ 8 then (if w < 256 then some (byteWordSelector w) else none)
  else if nbits ≤ 16 then
    if isRxselWord w then some (.rxsel (BitVec.ofNat 5 w))
    else if frameValid (BitVec.ofNat 11 w) ∧ w < 2048 then some (.frame11 (BitVec.ofNat 11 w))
    else if w < 512 then some (.event (BitVec.ofNat 9 w))
    else none
  else none

/-- The configuration a bare word is read under: R7's defaults; the other code set for the two words that are prefixes
only there (rows T.EXT and T.SPECIAL: "SETX only"). -/
def tableConfig (c : Config) (w : Nat) : Config :=
  if w = 0xE0 ∨ w = 0xE1 then c.useSetX else c

/-- The operation the decoder reads from a word numbered as spec/opcode_table.json numbers it. -/
def decodeTableWord (nbits w : Nat) : Option Instr :=
  match tableSelector nbits w with
  | none => none
  | some sel =>
    match decode (tableConfig .default w) sel with
    | .ok i => some i
    | .reject _ => none

end Sys2Proof
end

