-- ==== Sys2Proof/Machine/Session.lean ====
section
/-! DEFINITION. The operations of the Device Session Driver (44_session.md) and line initialization (R292). S.CMD, S.STARTUP, S.LED,
S.RESEND and S.LOOP are sequences of atomic steps (R78, R221): each call of one of them does the step that is due at its
position and leaves the position of the next in `fg` and `cmd` (R44; log 9). -/

namespace Sys2Proof.Machine

/-! ### S.CMD and its replies -/

/-- The poll of the reply wait (R221): one QueuePop, then what the reply decides; the queue is looked at before the
deadline (R227, R261). -/
def cmdPoll (s : State) : State :=
  match s.queueHead with
  | none => replyNone s
  | some r =>
    if r = s.cfg.ackByte then replyAck (queueDrop s)
    else if r = s.cfg.resendByte then cmdAttempt (queueDrop s)
    else replyOther r (queueDrop s)

/-- S.CMD(b) (R221): the step due at `cmd_phase`. -/
def execSCmd (b : Byte) (s : State) : Outcome :=
  match s.cmd.phase with
  | .idle => cmdBegin b s
  | .send => .next (cmdAfterWrite s)
  | .wait => .next (cmdPoll s)

/-- REPLY.ACK (R225): the popped byte is `ACK_BYTE`; S.CMD returns true. -/
def execReplyAck (s : State) : Outcome := .next (replyAck s)

/-- REPLY.RESEND (R226): send again; the attempt is used up. -/
def execReplyResend (s : State) : Outcome := .next (cmdAttempt s)

/-- REPLY.OTHER (R226): UnexpectedReply, then send again. -/
def execReplyOther (b : Byte) (s : State) : Outcome := .next (replyOther b s)

/-- REPLY.NONE (R227): no byte at this poll; past the deadline ReplyTimeout and send again, else wait on. -/
def execReplyNone (s : State) : Outcome := .next (replyNone s)

/-! ### Command bytes -/

/-- S.CMD of a byte of the configuration; a variant without it sends nothing (log 27). -/
def cmdBeginOf (b : Option Byte) (s : State) : Outcome :=
  match b with
  | some c => cmdBegin c s
  | none => .next s

/-- CMD.RESEND (R236): TX.WRITE(CMD_RESEND), a plain write without reply wait. -/
def execCmdResend (s : State) : Outcome := txBegin s.cfg.cmdResend s

/-- CMD.SET_LEDS (R233): S.CMD(CMD_SET_LEDS). -/
def execCmdSetLeds (s : State) : Outcome := cmdBegin s.cfg.cmdSetLeds s

/-- CMD.SELECT_CODE_SET (R230): S.CMD(STARTUP_SEQ[0]). -/
def execCmdSelectCodeSet (s : State) : Outcome := cmdBeginOf (commandByte s.cfg .selectCodeSet) s

/-- CMD.DISABLE_TYPEMATIC (R230): S.CMD(STARTUP_SEQ[2]), in the deployment variant that has it. -/
def execCmdDisableTypematic (s : State) : Outcome := cmdBeginOf (commandByte s.cfg .disableTypematic) s

/-! ### LED path -/

/-- `led_in(u)`: latch the byte, set `led_pending` (R234). -/
def latchLed (u : Byte) (s : State) : State := { s with ledUsb := u, ledPending := true }

/-- LED_IN (R234). -/
def execLedIn (u : Byte) (s : State) : Outcome := .next (latchLed u s)

/-- LED_USB (R105): a byte in the USB numbering, "as received on `led_in`" (log 15). -/
def execLedUsb (u : Byte) (s : State) : Outcome := .next (latchLed u s)

/-- LED_LEGACY (R105): a byte in the legacy numbering, "as written to the bus after CMD_SET_LEDS": its own S.CMD (R233). -/
def execLedLegacy (c n sl : Bool) (s : State) : Outcome := cmdBegin (ledLegacyByte c n sl) s

/-- S.LED (R233): read and clear; after the command byte go on to the argument only if it was acknowledged; the
argument's result is ignored. -/
def execSLed (s : State) : Outcome :=
  match s.fg with
  | .ledWait u => .next { s with fg := if s.cmd.result then .ledArgSend u else .sleep }
  | .ledArgWait => .next { s with fg := .sleep }
  | .boot | .startup _ | .startupWait _ | .loopTop | .resend | .resendSend | .resendWait | .drain | .deliver | .led
  | .ledSend _ | .ledArgSend _ | .sleep | .halted =>
    if s.ledPending then .next { s with ledPending := false, fg := .ledSend s.ledUsb } else .next s

/-! ### Startup, resend service, loop -/

/-- LineInit (R292). -/
def execLineInit (s : State) : Outcome := .next (releaseBus s)

/-- S.STARTUP (R230): LineInit, then each byte with its own S.CMD, stop at the first failure; it runs once, from its own
positions, and does nothing at any other (log 26). -/
def execSStartup (s : State) : Outcome :=
  match s.fg with
  | .boot => .next { releaseBus s with fg := .startup 0 }
  | .startup i =>
    match s.cfg.startupSeq[i]? with
    | some c => cmdBegin c { s with fg := .startupWait i }
    | none => .next { s with mode := .run, fg := .loopTop }
  | .startupWait i =>
    if s.cmd.result then .next { s with fg := .startup (i + 1) }
    else .next { s.raise (.initFatal s.cmd.byte) with mode := .failed, fg := .halted }
  | .loopTop | .resend | .resendSend | .resendWait | .drain | .deliver | .led | .ledSend _ | .ledWait _ | .ledArgSend _
  | .ledArgWait | .sleep | .halted => .next s

/-- S.RESEND (R236): the test of the flag, and after the write the clear if it succeeded. -/
def execSResend (s : State) : Outcome :=
  match s.fg with
  | .resendWait =>
    .next { s with resendRequest := if s.tx.result then false else s.resendRequest, fg := .drain }
  | .boot | .startup _ | .startupWait _ | .loopTop | .resend | .resendSend | .drain | .deliver | .led | .ledSend _
  | .ledWait _ | .ledArgSend _ | .ledArgWait | .sleep | .halted =>
    .next { s with fg := if s.resendRequest then .resendSend else .drain }

/-- S.LOOP (R238): one iteration begins, only in mode RUN; its first activity is S.RESEND. -/
def execSLoop (s : State) : Outcome :=
  match s.mode with
  | .run => .next { s with fg := .resend }
  | .boot => .next s
  | .failed => .next s

/-- S.SLEEP (R240): the wait changes no state (D31). -/
def execSSleep (s : State) : Outcome := .next s

end Sys2Proof.Machine
end

