-- ==== Sys2Proof/Machine/Translate.lean ====
section
/-! DEFINITION. The operations of the Scan-Code Translator (42_translator.md); what an operation returns stands in `event`. -/

namespace Sys2Proof.Machine

/-- A release prefix (R182): the other two flags keep their values (R188). -/
def translateRelease (s : State) : State := { s with tr := { s.tr with release := true }, event := none }

/-- The identifier a key byte resolves to: `SPECIAL_ID` when the special flag is set, else the table's (R185). -/
def keyIdOf (s : State) (b : Byte) : Byte :=
  if s.tr.special then s.cfg.active.specialId else tbl s.cfg s.tr.extended b

/-- A key byte (R185, R186): the flags go neutral whether or not it is mapped. -/
def translateKey (b : Byte) (s : State) : State :=
  { s with
    tr := Translator.neutral
    event := if keyIdOf s b = 0x00 then none else some (keyIdOf s b, s.tr.release) }

/-- T.RELEASE (R182), code set 3. -/
def execTRelease (s : State) : Outcome := .next (translateRelease s)

/-- T.RELEASE[SETX] (R182), the other code set. -/
def execTReleaseSetX (s : State) : Outcome := .next (translateRelease s)

/-- T.EXT (R183): both extended prefix values select the one extended table. -/
def execTExt (_b : Byte) (s : State) : Outcome :=
  .next { s with tr := { s.tr with extended := true }, event := none }

/-- T.SPECIAL (R184). -/
def execTSpecial (s : State) : Outcome :=
  .next { s with tr := { s.tr with special := true }, event := none }

/-- T.KEY(b) (R185). -/
def execTKey (b : Byte) (s : State) : Outcome := .next (translateKey b s)

/-- T.KEY[0x1C] (R185): the row of the one byte whose table entry the source gives. -/
def execTKey1C (s : State) : Outcome := .next (translateKey 0x1C s)

/-- Translate(b) (R180): the dispatch on the byte class. -/
def execTranslate (b : Byte) (s : State) : Outcome :=
  match classify s.cfg b with
  | .release => .next (translateRelease s)
  | .extended => execTExt b s
  | .special => execTSpecial s
  | .key => .next (translateKey b s)

end Sys2Proof.Machine
end

