-- ==== Sys2Proof/Machine/WritePath.lean ====
section
/-! DEFINITION. The operations of the write path (41_line_tx.md): each poll observes (clk, data, ms_now) once. -/

namespace Sys2Proof.Machine

/-- TX.WRITE(b), invocation (R151). -/
def execTxWrite (b : Byte) (s : State) : Outcome := txBegin b s

/-- TX.WAIT_IDLE, one poll (R153): idle test first, then the deadline (D12). -/
def execTxWaitIdle (s : State) : Outcome :=
  let s1 := rxStale s
  if busIdle s1 then .next (setTxPhase .settle s1)
  else if txExpired s.cfg.tIdleMs s1 then .next (txFail .busBusy s1)
  else .next s1

/-- TX.SETTLE, the re-check after the delay and step 3 (R155). -/
def execTxSettle (s : State) : Outcome :=
  let s1 := rxStale s
  if busIdle s1 then
    let s2 := setTxPhase .inhibit s1
    .next { s2 with rx := { s2.rx with suppressed := true } }
  else .next (setTxPhase .waitIdle s1)

/-- TX.INHIBIT (R157). -/
def execTxInhibit (s : State) : Outcome :=
  .next { s with
    drive := { s.drive with clkLow := true }
    tx := { s.tx with t0 := s.env.msNow, phase := .start } }

/-- TX.START (R158): data low, clock released. -/
def execTxStart (s : State) : Outcome :=
  .next { s with
    drive := { clkLow := false, dataLow := true }
    tx := { s.tx with index := 0, phase := .waitLow } }

/-- TX.WAIT_LOW, one poll (R159). -/
def execTxWaitLow (s : State) : Outcome :=
  if !s.clk then
    let k := s.tx.index + 1
    .next { s with
      drive := { s.drive with dataLow := dataDriveAt s.tx.byte k s.drive.dataLow }
      tx := { s.tx with index := k, phase := .waitHigh } }
  else if txExpired s.cfg.tClockoutMs s then .next (txFail .clockTimeout s)
  else .next s

/-- TX.WAIT_HIGH, one poll (R160). -/
def execTxWaitHigh (s : State) : Outcome :=
  if s.clk then .next (setTxPhase (if s.tx.index.toNat < 10 then .waitLow else .ackWaitLow) s)
  else if txExpired s.cfg.tClockoutMs s then .next (txFail .clockTimeout s)
  else .next s

/-- What the level `a` sampled at the acknowledgment pulse decides (R97, R165). -/
def lineAck (a : Bool) (s : State) : State :=
  if a then txFail .noAck s else setTxPhase .ackWaitRelease s

/-- TX.LINE_ACK (R97). -/
def execTxLineAck (a : Bool) (s : State) : Outcome := .next (lineAck a s)

/-- TX.ACK_WAIT_LOW, one poll (R165). -/
def execTxAckWaitLow (s : State) : Outcome :=
  if !s.clk then .next (lineAck s.data s)
  else if txExpired s.cfg.tClockoutMs s then .next (txFail .ackTimeout s)
  else .next s

/-- TX.ACK_WAIT_RELEASE, one poll (R166). -/
def execTxAckWaitRelease (s : State) : Outcome :=
  if s.clk && s.data then .next (txFinish true s)
  else if txExpired s.cfg.tClockoutMs s then .next (txFail .ackTimeout s)
  else .next s

/-- TX.FAIL (R167). -/
def execTxFail (f : TxFault) (s : State) : Outcome := .next (txFail f s)

/-- TX.SUCCEED (R168). -/
def execTxSucceed (s : State) : Outcome := .next (txFinish true s)

end Sys2Proof.Machine
end

