-- ==== Sys2Proof/Machine/Dispatch.lean ====
section
/-! DEFINITION. The meaning of every operation, one arm per constructor. -/

namespace Sys2Proof.Machine

def exec (i : Instr) (s : State) : Host.Outcome State Fault Refusal :=
  match i with
  | .rxStart => Sys2Proof.Machine.execRxStart s
  | .rxSpurious => Sys2Proof.Machine.execRxSpurious s
  | .rxData k d => Sys2Proof.Machine.execRxData k d s
  | .rxParity d => Sys2Proof.Machine.execRxParity d s
  | .rxStop d => Sys2Proof.Machine.execRxStop d s
  | .rxStale => Sys2Proof.Machine.execRxStale s
  | .rxStep => Sys2Proof.Machine.execRxStep s
  | .frame11 w => Sys2Proof.Machine.execFrame11 w s
  | .txLineAck a => Sys2Proof.Machine.execTxLineAck a s
  | .qPush b => Sys2Proof.Machine.execQPush b s
  | .qPop => Sys2Proof.Machine.execQPop s
  | .tRelease => Sys2Proof.Machine.execTRelease s
  | .tReleaseSetX => Sys2Proof.Machine.execTReleaseSetX s
  | .tExt b => Sys2Proof.Machine.execTExt b s
  | .tSpecial => Sys2Proof.Machine.execTSpecial s
  | .tKey b => Sys2Proof.Machine.execTKey b s
  | .tKey1C => Sys2Proof.Machine.execTKey1C s
  | .translate b => Sys2Proof.Machine.execTranslate b s
  | .replyAck => Sys2Proof.Machine.execReplyAck s
  | .replyResend => Sys2Proof.Machine.execReplyResend s
  | .replyOther b => Sys2Proof.Machine.execReplyOther b s
  | .replyNone => Sys2Proof.Machine.execReplyNone s
  | .cmdResend => Sys2Proof.Machine.execCmdResend s
  | .cmdSetLeds => Sys2Proof.Machine.execCmdSetLeds s
  | .cmdSelectCodeSet => Sys2Proof.Machine.execCmdSelectCodeSet s
  | .cmdDisableTypematic => Sys2Proof.Machine.execCmdDisableTypematic s
  | .ledUsb u => Sys2Proof.Machine.execLedUsb u s
  | .ledLegacy c n sl => Sys2Proof.Machine.execLedLegacy c n sl s
  | .event rel id => Sys2Proof.Machine.execEvent rel id s
  | .report8 => Sys2Proof.Machine.execReport8 s
  | .rolloverSentinel => Sys2Proof.Machine.execRolloverSentinel s
  | .txWrite b => Sys2Proof.Machine.execTxWrite b s
  | .txWaitIdle => Sys2Proof.Machine.execTxWaitIdle s
  | .txSettle => Sys2Proof.Machine.execTxSettle s
  | .txInhibit => Sys2Proof.Machine.execTxInhibit s
  | .txStart => Sys2Proof.Machine.execTxStart s
  | .txWaitLow => Sys2Proof.Machine.execTxWaitLow s
  | .txWaitHigh => Sys2Proof.Machine.execTxWaitHigh s
  | .txAckWaitLow => Sys2Proof.Machine.execTxAckWaitLow s
  | .txAckWaitRelease => Sys2Proof.Machine.execTxAckWaitRelease s
  | .txFail f => Sys2Proof.Machine.execTxFail f s
  | .txSucceed => Sys2Proof.Machine.execTxSucceed s
  | .mApply id rel => Sys2Proof.Machine.execMApply id rel s
  | .rBuild => Sys2Proof.Machine.execRBuild s
  | .rDeliver => Sys2Proof.Machine.execRDeliver s
  | .rDeliverReq => Sys2Proof.Machine.execRDeliverReq s
  | .sCmd b => Sys2Proof.Machine.execSCmd b s
  | .sStartup => Sys2Proof.Machine.execSStartup s
  | .sLed => Sys2Proof.Machine.execSLed s
  | .ledIn u => Sys2Proof.Machine.execLedIn u s
  | .sResend => Sys2Proof.Machine.execSResend s
  | .sLoop => Sys2Proof.Machine.execSLoop s
  | .sSleep => Sys2Proof.Machine.execSSleep s
  | .lineInit => Sys2Proof.Machine.execLineInit s

end Sys2Proof.Machine
end

