-- ==== Sys2Proof/Machine/Agents.lean ====
section
/-! DEFINITION. The agents (R11): what FG's sequencers select next, the interrupt an edge causes, what each stimulus of the environment
does; and how a word is put where the next step meets it. `step` only calls these. -/

namespace Sys2Proof.Machine

/-! ### FG: the operation its sequencers select -/

/-- The operation of a running write, selected by `tx_phase` (R150). -/
def txSelector : TxPhase → Option Selector
  | .idle => none
  | .done => none
  | .waitIdle => some (.invoked .txWaitIdle 0)
  | .settle => some (.invoked .txSettle 0)
  | .inhibit => some (.invoked .txInhibit 0)
  | .start => some (.invoked .txStart 0)
  | .waitLow => some (.invoked .txWaitLow 0)
  | .waitHigh => some (.invoked .txWaitHigh 0)
  | .ackWaitLow => some (.invoked .txAckWaitLow 0)
  | .ackWaitRelease => some (.invoked .txAckWaitRelease 0)

/-- The selector of the drain loop (R238): a popped byte is translated, an event is applied, else the next Q.POP; a pop that
finds the queue empty ends the loop. -/
def drainFetch (s : State) : Selector × State :=
  match s.popped with
  | some b => (.byteClass b, { s with popped := none })
  | none =>
    match s.event with
    | some e => (.invoked .mApply (eventWord e.2 e.1), { s with event := none })
    | none => (.invoked .qPop 0, { s with fg := if s.queueEmpty then .deliver else .drain })

/-- The selector of S.STARTUP before the byte with index `i` (R230): the byte's CMD row, S.CMD for a byte without a row of its
own, or the end of the sequence. -/
def startupFetch (i : Nat) (s : State) : Selector × State :=
  match s.cfg.startupSeq[i]? with
  | none => (.invoked .sStartup 0, s)
  | some c =>
    let s1 := { s with fg := .startupWait i }
    if i = 0 then (.cmd .selectCodeSet c, s1)
    else if i = 2 then (.cmd .disableTypematic c, s1)
    else (.invoked .sCmd (byteOperand c), s1)

/-- The selector of the FG position, no write and no S.CMD being under way (R238, R44); the state has the position moved
past the selected operation. `none` in mode FAILED, which runs nothing (R231, R274). -/
def positionFetch (s : State) : Option (Selector × State) :=
  match s.fg with
  | .boot => some (.invoked .sStartup 0, s)
  | .startup i => some (startupFetch i s)
  | .startupWait _ => some (.invoked .sStartup 0, s)
  | .loopTop => some (.invoked .sLoop 0, s)
  | .resend => some (.invoked .sResend 0, s)
  | .resendSend => some (.cmd .resend s.cfg.cmdResend, { s with fg := .resendWait })
  | .resendWait => some (.invoked .sResend 0, s)
  | .drain => some (drainFetch s)
  | .deliver => some (.invoked .rDeliver 0, { s with fg := .led })
  | .led => some (if s.ledPending then (.invoked .sLed 0, s) else (.invoked .sSleep 0, { s with fg := .loopTop }))
  | .ledSend u => some (.cmd .setLeds s.cfg.cmdSetLeds, { s with fg := .ledWait u })
  | .ledWait _ => some (.invoked .sLed 0, s)
  | .ledArgSend u => some (.ledLegacy (ledRemap u), { s with fg := .ledArgWait })
  | .ledArgWait => some (.invoked .sLed 0, s)
  | .sleep => some (.invoked .sSleep 0, { s with fg := .loopTop })
  | .halted => none

/-- The reply of S.CMD's poll (R221, R103): the popped byte, or none. -/
def replyFetch (s : State) : Selector × State :=
  match s.queueHead with
  | some b => (.reply b, queueDrop s)
  | none => (.invoked .replyNone 0, s)

/-- FG's next selector and the state with it consumed: a due TX.WRITE call, the running write, S.CMD, then the position. -/
def fgFetch (s : State) : Option (Selector × State) :=
  if s.cmd.writeDue then
    some (.invoked .txWrite (byteOperand s.cmd.byte), { s with cmd := { s.cmd with writeDue := false } })
  else
    match txSelector s.tx.phase with
    | some sel => some (sel, s)
    | none =>
      match s.cmd.phase with
      | .send => some (.invoked .sCmd (byteOperand s.cmd.byte), s)
      | .wait => some (replyFetch s)
      | .idle => positionFetch s

/-- A selector decoded and executed. -/
def runSelector (sel : Selector) (s : State) : Outcome :=
  match decode s.cfg sel with
  | .ok i => exec i s
  | .reject _ => .refused .selectorRejected

/-- One atomic step of FG. -/
def fgStep (s : State) : Outcome :=
  match fgFetch s with
  | some p => runSelector p.1 p.2
  | none => .next s

/-! ### The interrupt -/

/-- If the derived level `clk` fell from the state before to the state after, RX takes the edge right then (R23, R74, R266);
whoever caused it (R130). -/
def takeEdge (before after : State) : Outcome :=
  if before.clk && !after.clk then exec .rxStep after else .next after

/-! ### The environment -/

/-- DEV sets its drive of the lines (R23). -/
def setDev (clkLow dataLow : Bool) (s : State) : State :=
  { s with env := { s.env with devClkLow := clkLow, devDataLow := dataLow } }

/-- MS advances `ms_now` by `n`, modulo 2^TIME_W (R22). -/
def advance (n : Nat) (s : State) : State :=
  { s with env := { s.env with msNow := (s.env.msNow + n) % 2 ^ s.cfg.timeW } }

/-- FG has not yet taken up the result of the write that just ended: "right after every write" (D15). -/
def writeJustEnded (s : State) : Bool :=
  decide (s.tx.phase = .done) &&
  ((decide (s.cmd.phase = .send) && !s.cmd.writeDue) || (decide (s.cmd.phase = .idle) && decide (s.fg = .resendWait)))

/-- The edge latched in the suppression of the write that just ended is delivered, once and with the present data level, only
if the configuration allows it (R7, D15; log 18). -/
def spuriousEdge (s : State) : Outcome :=
  match s.cfg.restoreSpuriousEdge with
  | .never => .next s
  | .maybe => if s.edgeLatched && writeJustEnded s then exec .rxStep { s with edgeLatched := false } else .next s

/-- What one stimulus does (R11, R263). -/
def applyStimulus (x : Stimulus) (s : State) : Outcome :=
  match x with
  | .fg => andThen (fgStep s) (takeEdge s)
  | .dev c d => takeEdge s (setDev c d s)
  | .frame w => exec (.frame11 w) s
  | .ms n => .next (advance n s)
  | .ledIn u => exec (.ledIn u) s
  | .reportReq => exec .rDeliverReq s
  | .wake => .next s
  | .spuriousEdge => spuriousEdge s

/-- The environment's next action and the rest; FG's turn when there is none (log 4). -/
def nextStimulus (s : State) : Stimulus × State :=
  match s.env.inputs with
  | [] => (.fg, s)
  | x :: rest => (x, { s with env := { s.env with inputs := rest } })

/-- One step of the machine: an ill-formed configuration is refused (U14), else the next stimulus acts. -/
def machineStep (s : State) : Outcome :=
  if s.cfg.wf then applyStimulus (nextStimulus s).1 (nextStimulus s).2 else .refused .illFormedConfig

/-! ### Where a word is met (log 14) -/

/-- FG at position `p`, in mode RUN or BOOT as given, no write and no S.CMD under way, its turn next. -/
def atPosition (m : Mode) (p : FgPos) (s : State) : State :=
  { s with
    mode := m, fg := p, popped := none, event := none
    env := { s.env with inputs := [] }
    tx := { s.tx with phase := .idle }
    cmd := { s.cmd with phase := .idle, writeDue := false } }

/-- A falling edge with level `d` comes next, `k` bits of a frame having been received just now, the handler enabled. -/
def atEdge (k : BitVec 4) (d : Bool) (s : State) : State :=
  { s with
    env := { s.env with devClkLow := false, inputs := [.dev true (!d)] }
    drive := { clkLow := false, dataLow := false }
    rx := { s.rx with suppressed := false, bitCount := k, lastBitTime := s.env.msNow } }

/-- S.CMD waits for its reply and byte `b` is the queue's first, FG's turn next. -/
def atReply (b : Byte) (s : State) : State :=
  { s with
    env := { s.env with inputs := [] }
    q := { buf := s.q.buf.write 0 b, wr := 1, rd := 0 }
    tx := { s.tx with phase := .done }
    cmd := { s.cmd with phase := .wait, t0 := s.env.msNow, writeDue := false } }

/-- The state in which the next step meets the selector; the formats `tableSelector` never answers change nothing. -/
def placeSelector (sel : Selector) (s : State) : State :=
  match sel with
  | .rxsel w => atEdge (w.extractLsb' 1 4) (w.getLsbD 0) s
  | .frame11 w =>
    { s with env := { s.env with inputs := [.frame w] }
             rx := { s.rx with suppressed := false, bitCount := 0 } }
  | .byteClass b => { atPosition .run .drain s with popped := some b }
  | .reply b => { atReply b s with mode := .boot, fg := .startupWait 0 }
  | .cmd .resend _ => atPosition .run .resendSend s
  | .cmd .setLeds _ => atPosition .run (.ledSend 0) s
  | .cmd .selectCodeSet _ => atPosition .boot (.startup 0) s
  | .cmd .disableTypematic _ => atPosition .boot (.startup 2) s
  | .event w => { atPosition .run .drain s with event := some (eventId w, eventRel w) }
  | .lineAck _ => s
  | .ledUsb _ => s
  | .ledLegacy _ => s
  | .report8 _ => s
  | .invoked _ _ => s

/-- The word of the opcode table put where the next step meets it, under the configuration the word is read in. -/
def placeWord (s : State) (nbits w : Nat) : State :=
  match tableSelector nbits w with
  | none => s
  | some sel => placeSelector sel { s with cfg := tableConfig s.cfg w }

end Sys2Proof.Machine
end

