-- ==== Sys2Proof/Machine/Step.lean ====
section
/-! DEFINITION. The step of the machine, and the state in which the next step meets a given word. -/

namespace Sys2Proof.Machine

/-- One step: the next stimulus of the environment acts, or FG takes its turn. -/
def step (s : State) : Host.Outcome State Fault Refusal := machineStep s

/-- `s` with the word placed where `step` meets its next selector (log 14). -/
def State.withFetchWord (s : State) (nbits w : Nat) : State := placeWord s nbits w

end Sys2Proof.Machine
end

