-- ==== Sys2Proof/Safety.lean ====
section
/-! DEFINITION. What a safe run is: the invariants of R58 and the control invariants behind them, the queue seen as a list, runs under a
given list of stimuli. Claims are stated in these terms. -/

namespace Sys2Proof.Machine

/-! ### Phases -/

/-- The phases with both host lines released (R58 d). -/
def TxPhase.quiet : TxPhase → Bool
  | .idle => true
  | .waitIdle => true
  | .settle => true
  | .done => true
  | .inhibit => false
  | .start => false
  | .waitLow => false
  | .waitHigh => false
  | .ackWaitLow => false
  | .ackWaitRelease => false

/-- The phases with the receive handler suppressed (R58 e): steps 3 to 6 of a write. -/
def TxPhase.suppressing : TxPhase → Bool
  | .idle => false
  | .waitIdle => false
  | .settle => false
  | .done => false
  | .inhibit => true
  | .start => true
  | .waitLow => true
  | .waitHigh => true
  | .ackWaitLow => true
  | .ackWaitRelease => true

/-! ### The invariants of R58 -/

/-- (a), (d), (e), (g) of R58: the bit count, the host lines, the suppression flag. -/
structure LineInv (s : State) : Prop where
  bitCount_le : s.rx.bitCount.toNat ≤ 10
  lines_released : s.tx.phase.quiet = true → s.drive.clkLow = false ∧ s.drive.dataLow = false
  suppressed_iff : s.rx.suppressed = true ↔ (s.tx.phase.suppressing = true ∨ s.fg = .boot)
  suppressed_at_zero : s.rx.suppressed = true → s.rx.bitCount = 0

/-- (b) of R58, and the ring's cells in canonical form and inside the index space (R60, R61). -/
structure QueueInv (s : State) : Prop where
  wr_lt : s.q.wr < s.cfg.queueSlots
  rd_lt : s.q.rd < s.cfg.queueSlots
  cells_wf : s.q.buf.wf
  cells_inside : ∀ x ∈ s.q.buf, x.1 < s.cfg.queueSlots

/-- (c) and (f) of R58; the event on its way to the matrix names a real key (R102). -/
structure MatrixInv (s : State) : Prop where
  bit_zero : s.km.getLsbD 0 = false
  bits_high : ∀ i, 0xE8 ≤ i → s.km.getLsbD i = false
  event_key : ∀ e, s.event = some e → isKeyId e.1 = true
  special_absent : s.cfg.active.specialPrefix = none → s.tr.special = false

/-! ### The control invariants: which position, S.CMD phase and write phase go together -/

/-- The positions from which S.CMD has been called and not yet returned to. -/
def FgPos.inCmd : FgPos → Bool
  | .startupWait _ => true
  | .ledWait _ => true
  | .ledArgWait => true
  | .boot => false
  | .startup _ => false
  | .loopTop => false
  | .resend => false
  | .resendSend => false
  | .resendWait => false
  | .drain => false
  | .deliver => false
  | .led => false
  | .ledSend _ => false
  | .ledArgSend _ => false
  | .sleep => false
  | .halted => false

/-- The mode a position belongs to (R230, R231, R238, R274). -/
def FgPos.modeOf : FgPos → Mode
  | .boot => .boot
  | .startup _ => .boot
  | .startupWait _ => .boot
  | .halted => .failed
  | .loopTop => .run
  | .resend => .run
  | .resendSend => .run
  | .resendWait => .run
  | .drain => .run
  | .deliver => .run
  | .led => .run
  | .ledSend _ => .run
  | .ledWait _ => .run
  | .ledArgSend _ => .run
  | .ledArgWait => .run
  | .sleep => .run

/-- The sequencers of FG agree with each other (R40 to R44, R222, R269). -/
structure ControlInv (s : State) : Prop where
  mode_eq : s.mode = s.fg.modeOf
  cmd_inside : s.cmd.phase ≠ .idle → s.fg.inCmd = true
  due_sending : s.cmd.writeDue = true → s.cmd.phase = .send ∧ s.tx.phase.atRest = true
  write_called : s.tx.phase.atRest = false → s.cmd.phase = .send ∨ s.fg = .resendWait
  write_awaited : s.cmd.phase = .send → s.cmd.writeDue = false → s.tx.phase ≠ .idle
  resend_awaited : s.fg = .resendWait → s.tx.phase ≠ .idle
  reply_at_rest : s.cmd.phase = .wait → s.tx.phase.atRest = true
  attempts_le : s.cmd.attempts ≤ s.cfg.cmdMaxAttempts
  latches : s.fg ≠ .drain → s.popped = none ∧ s.event = none
  one_latch : s.popped = none ∨ s.event = none
  startup_index : ∀ i, s.fg = .startupWait i → i < s.cfg.startupSeq.length

/-- The write's bit counter stays with its phase (R33, R159, R160). -/
structure IndexInv (s : State) : Prop where
  index_le : s.tx.index.toNat ≤ 10
  low_lt : s.tx.phase = .waitLow → s.tx.index.toNat < 10
  high_pos : s.tx.phase = .waitHigh → 1 ≤ s.tx.index.toNat
  ack_ten : s.tx.phase = .ackWaitLow ∨ s.tx.phase = .ackWaitRelease → s.tx.index.toNat = 10

/-- Every stored time fits `TIME_W` bits (R22, R32, R34, R36). -/
structure TimeInv (s : State) : Prop where
  now_lt : s.env.msNow < 2 ^ s.cfg.timeW
  bit_lt : s.rx.lastBitTime < 2 ^ s.cfg.timeW
  tx_lt : s.tx.t0 < 2 ^ s.cfg.timeW
  cmd_lt : s.cmd.t0 < 2 ^ s.cfg.timeW

/-- `last_report` is "the value most recently emitted on `report_out`" (R52), and byte 1 is "always zero" (R106). -/
structure ReportInv (s : State) : Prop where
  last_emitted : s.lastReport = s.out.reports.headD .zero
  reserved_zero : ∀ r ∈ s.out.reports, r.reserved = 0x00

/-- The invariant of a reachable state. -/
structure Inv (s : State) : Prop where
  cfg_wf : s.cfg.wf = true
  line : LineInv s
  queue : QueueInv s
  matrix : MatrixInv s
  control : ControlInv s
  index : IndexInv s
  time : TimeInv s
  report : ReportInv s

/-- Before normal operation nothing is translated: the matrix, `last_report` and the translator are as reset left them in
every mode but RUN (R231, R295). -/
def Cold (s : State) : Prop :=
  s.mode ≠ .run → s.km = 0 ∧ s.lastReport = Report.zero ∧ s.tr = Translator.neutral

/-! ### The queue as a list -/

/-- The number of queued bytes, `(q_wr - q_rd) mod N` (R61, R83). -/
def State.occupancy (s : State) : Nat := (s.q.wr + s.cfg.queueSlots - s.q.rd) % s.cfg.queueSlots

/-- The queued bytes, oldest first: the cells from `q_rd` on. -/
def State.queued (s : State) : List Byte :=
  (List.range s.occupancy).map (fun k => s.q.buf.read ((s.q.rd + k) % s.cfg.queueSlots))

/-! ### Runs -/

/-- The machine with the environment's next actions prescribed. -/
def State.withInputs (s : State) (xs : List Stimulus) : State := { s with env := { s.env with inputs := xs } }

/-- `n` steps. -/
def run (n : Nat) (s : State) : Outcome :=
  match n with
  | 0 => .next s
  | n + 1 => andThen (step s) (run n)

/-- DEV clocks one bit `d` after `gap` ms: the clock waits, falls with the data level `d`, and rises (R116 `edge`). -/
def clockBit (gap : Nat) (d : Bool) : List Stimulus := [.ms gap, .dev true (!d), .dev false (!d)]

/-- DEV clocks the levels `ds`, each after its gap. -/
def clockBits : List Nat → List Bool → List Stimulus
  | g :: gs, d :: ds => clockBit g d ++ clockBits gs ds
  | _, _ => []

/-- One clock pulse of DEV during a host write, FG polling in each half: clock low with the data line as given, then
released (R159, R160). -/
def devicePulse (dataLow : Bool) : List Stimulus := [.dev true dataLow, .fg, .dev false false, .fg]

/-- A device that clocks out a whole write and acknowledges it: ten pulses with the data line released, then the eleventh
with the data line held low (R159, R165). -/
def deviceWrite : List Stimulus := (List.replicate 10 (devicePulse false)).flatten ++ devicePulse true

/-- The bytes `bs` handed to the translator one after another (R180). -/
def translateAll (bs : List Byte) (s : State) : Outcome :=
  match bs with
  | [] => .next s
  | b :: rest => andThen (exec (.translate b) s) (translateAll rest)

/-! ### Infinite runs (R170, R316) -/

/-- The states `σ` are an infinite run under the schedule `x`: step number n is the action `x n`. -/
def RunOf (x : Nat → Stimulus) (σ : Nat → State) : Prop :=
  ∀ n, step ((σ n).withInputs [x n]) = .next (σ (n + 1))

/-- Fairness of MS and of the scheduling of FG (R170): again and again FG takes its turn at a time when the running write, if
there is one, is past both its limits. -/
def FairToWrites (x : Nat → Stimulus) (σ : Nat → State) : Prop :=
  ∀ n, ∃ m, n ≤ m ∧ x m = .fg ∧
    ((σ m).tx.phase.atRest = false →
      txExpired (σ m).cfg.tIdleMs (σ m) = true ∧ txExpired (σ m).cfg.tClockoutMs (σ m) = true)

/-- Again and again the bus, found idle, is found disturbed after the settle delay, and the write is back in its wait (R155;
log 32). -/
def HeldOff (σ : Nat → State) : Prop :=
  ∀ n, ∃ m, n ≤ m ∧ (σ m).tx.phase = .settle ∧ (σ (m + 1)).tx.phase = .waitIdle

/-! ### What the block `attempt:` may do -/

/-- From `s` to `t` by the block `attempt:` of S.CMD (R221, R222, R228): after `CMD_MAX_ATTEMPTS` attempts CmdExhausted is
logged and S.CMD returns false; else the attempt is counted and TX.WRITE(cmd_byte) is due. Nothing else changes. -/
def AttemptFrom (s t : State) : Prop :=
  if s.cmd.attempts = s.cfg.cmdMaxAttempts then
    t = { s with
      cmd := { s.cmd with phase := .idle, result := false }
      out := { s.out with faults := .cmdExhausted s.cmd.byte :: s.out.faults } }
  else
    t = { s with cmd := { s.cmd with phase := .send, attempts := s.cmd.attempts + 1, writeDue := true } }

/-- The operations of agent RX (R12): the RXSEL rows, RX.STALE, RX.STEP and the frame of eleven edges. -/
def ofReceiver (i : Instr) : Prop :=
  i.format = .rxsel ∨ i = .rxStale ∨ i = .rxStep ∨ ∃ w, i = .frame11 w

/-- FG is between two operations of its position: no write runs or is due, no S.CMD is under way. -/
def State.foregroundFree (s : State) : Prop :=
  s.cmd.writeDue = false ∧ s.cmd.phase = .idle ∧ s.tx.phase.atRest = true

end Sys2Proof.Machine
end

