-- ==== Sys2Proof/Certificates/Slice0/Obligations.lean ====
section
/-! DEFINITION. The statements for the provers. A frame is said by an equation `t = { s with f := t.f, ... }`: every part of the state
that is not named there, the ring's cells among them, is as it was. -/

open Sys2Proof Sys2Proof.Machine

/-! ## Reset -/

/-- R57: the reset values the spec gives (`rx_last_bit_time`, `tx_t0`, `cmd_t0` and the ring's cells are unspecified there and not
stated here).
The table is the spec's decisions D9, D21, D25. -/
def Obligations.ResetHoldsTheStatedValues : Prop :=
  State.reset.drive.clkLow = false ∧ State.reset.drive.dataLow = false ∧
  State.reset.rx.bitCount = 0 ∧ State.reset.rx.data = 0x00 ∧ State.reset.rx.parity = false ∧
  State.reset.rx.suppressed = true ∧ State.reset.resendRequest = false ∧
  State.reset.q.wr = 0 ∧ State.reset.q.rd = 0 ∧ State.reset.queued = [] ∧
  State.reset.tx.phase = .idle ∧ State.reset.tx.byte = 0x00 ∧ State.reset.tx.index = 0 ∧ State.reset.tx.result = false ∧
  State.reset.tr = Translator.neutral ∧ (∀ i, State.reset.km.getLsbD i = false) ∧
  (∀ i, State.reset.lastReport.byte i = 0x00) ∧ State.reset.mode = .boot ∧
  State.reset.cmd.phase = .idle ∧ State.reset.cmd.byte = 0x00 ∧ State.reset.cmd.attempts = 0 ∧
  State.reset.ledPending = false ∧ State.reset.ledUsb = 0x00 ∧ State.reset.initFailed = false

/-- The invariant and `Cold` hold right after reset, whatever well-formed configuration the block is built with.
The model's reset values where the spec gives none: log 6, 7, 9. -/
def Obligations.ResetMeetsTheInvariant : Prop :=
  ∀ c : Config, c.wf = true → Inv { State.reset with cfg := c } ∧ Cold { State.reset with cfg := c }

/-! ## The whole machine -/

/-- R58: every step keeps the invariants (a) to (g), with the control invariants they need.
R58 is derived in the spec. -/
def Obligations.EveryStepKeepsTheInvariant : Prop :=
  ∀ s t : State, Inv s → step s = .next t → Inv t

/-- Nothing in the block traps (R110, R267): from a state that meets the invariant every step of the edge-driven build answers
a next state, so the stops the model declares (log 16, 17, 19, 20) are out of reach there. -/
def Obligations.EdgeBuildNeverStops : Prop :=
  ∀ s : State, Inv s → s.cfg.rxImpl = .edge → ∃ t, step s = .next t

/-- R231, R274, R295: in every mode but RUN no byte is translated: matrix, `last_report` and translator stay as reset left them.
In FAILED nothing runs: no step writes the bus, starts an S.CMD or moves FG, and FG's own turn changes nothing.
Decision D24 of the spec; the position `halted` is the model's, log 9. -/
def Obligations.NothingIsTranslatedOutsideRun : Prop :=
  (∀ s t : State, Inv s → Cold s → step s = .next t → Cold t) ∧
  (∀ s t : State, Inv s → s.mode = .failed → step s = .next t →
    t.tx = s.tx ∧ t.cmd = s.cmd ∧ t.drive = s.drive ∧ t.fg = .halted) ∧
  (∀ s : State, s.cfg.wf = true → s.foregroundFree → s.env.inputs = [] → s.fg = .halted → step s = .next s)

/-- R42: the moves of `mode`. -/
def Obligations.ModeMovesOnlyOutOfBoot : Prop :=
  State.reset.mode = .boot ∧
  ∀ s t : State, Inv s → step s = .next t →
    (s.mode = .run → t.mode = .run) ∧ (s.mode = .failed → t.mode = .failed)

/-- R293: of all operations only M.APPLY with a release event clears a matrix bit. -/
def Obligations.OnlyAReleaseEventClearsAHeldKey : Prop :=
  ∀ (i : Instr) (s t : State) (j : Nat), exec i s = .next t →
    s.km.getLsbD j = true → t.km.getLsbD j = false → ∃ id : Byte, id.toNat = j ∧ i = .mApply id true

/-- R67: no operation and no step writes the configuration, so a lookup always sees the configured value. -/
def Obligations.TheConfigurationIsNeverWritten : Prop :=
  (∀ (i : Instr) (s t : State), exec i s = .next t → t.cfg = s.cfg) ∧
  (∀ s t : State, step s = .next t → t.cfg = s.cfg) ∧
  (∀ (s t : State) (ext : Bool) (b : Byte), step s = .next t → tbl t.cfg ext b = tbl s.cfg ext b)

/-- R56, R266: the receiver writes LineState, `resend_request`, the write side of the queue and the fault log, and nothing else:
the foreground resumes with its private state as it left it.
R56's table is derived in the spec. -/
def Obligations.TheReceiverWritesOnlyItsOwnElements : Prop :=
  ∀ (i : Instr) (s t : State), ofReceiver i → exec i s = .next t →
    t = { s with
      rx := { t.rx with suppressed := s.rx.suppressed }
      resendRequest := t.resendRequest
      q := { t.q with rd := s.q.rd }
      out := { t.out with reports := s.out.reports } }

/-- R24, R292: the line-drive registers are written only by the write path and by line initialization, which releases both lines
and enables the handler.
LineInit is the spec's decision D9. -/
def Obligations.OnlyTheWritePathDrivesTheLines : Prop :=
  (∀ (i : Instr) (s t : State), exec i s = .next t → t.drive ≠ s.drive →
    i = .lineInit ∨ (i = .sStartup ∧ s.fg = .boot) ∨
    i = .txWaitIdle ∨ i = .txInhibit ∨ i = .txStart ∨ i = .txWaitLow ∨ i = .txWaitHigh ∨ i = .txAckWaitLow ∨
    i = .txAckWaitRelease ∨ (∃ a, i = .txLineAck a) ∨ (∃ f, i = .txFail f) ∨ i = .txSucceed) ∧
  (∀ s : State, exec .lineInit s = .next { s with
    drive := { clkLow := false, dataLow := false }, rx := { s.rx with suppressed := false } })

/-- R209, R263: R.DELIVER on request emits the report of the present matrix and remembers it (the spec's decision D21); when
`led_in` and `report_req` are both ready their order does not matter. -/
def Obligations.TheUsbEventsAreServedInAnyOrder : Prop :=
  (∀ s : State, exec .rDeliverReq s = .next { s with
    lastReport := reportOf s.cfg s.km
    out := { s.out with reports := reportOf s.cfg s.km :: s.out.reports } }) ∧
  (∀ (s : State) (u : Byte) (rest : List Stimulus), s.cfg.wf = true →
    ∃ t, run 2 (s.withInputs (.ledIn u :: .reportReq :: rest)) = .next t ∧
      run 2 (s.withInputs (.reportReq :: .ledIn u :: rest)) = .next t ∧
      t.ledUsb = u ∧ t.ledPending = true ∧ t.lastReport = reportOf s.cfg s.km)

/-- R8, R111: a configuration with a table entry above 0xE7 is refused, unless the entry stands at a prefix value of its code
set, where it is never consulted and "may hold anything" (R8 c; to follow R8 c there and not R111 is the model's choice,
log 16). -/
def Obligations.AReservedTableEntryIsRefused : Prop :=
  ∀ (s : State) (k : CodeSetConfig) (e : Byte × Byte), k = s.cfg.set3 ∨ k = s.cfg.setX → e ∈ k.primary ∨ e ∈ k.extended →
    e.1 ≠ k.releasePrefix → e.1 ∉ k.extPrefixes → k.specialPrefix ≠ some e.1 → 0xE7 < e.2.toNat →
    step s = .refused .illFormedConfig

/-! ## A step runs the decoded operation -/

/-- FG's turn: the operation its sequencers select is decoded and executed; then an edge it caused is taken, in the same machine
step (R74 with decision D28 of the spec; that the handler comes before anything else is DEDUCED, log 21). -/
def Obligations.AForegroundStepRunsTheSelectedOperation : Prop :=
  ∀ (s s1 : State) (rest : List Stimulus) (sel : Selector) (i : Instr), s.cfg.wf = true →
    fgFetch (s.withInputs rest) = some (sel, s1) → decode s1.cfg sel = .ok i →
    step (s.withInputs (.fg :: rest)) = andThen (exec i s1) (takeEdge (s.withInputs rest)) ∧
    (rest = [] → step (s.withInputs []) = andThen (exec i s1) (takeEdge (s.withInputs [])))

/-- In the drain loop the popped byte is the selector: the step is the operation its byte class names (R100, R180, R238). -/
def Obligations.ADrainStepTranslatesThePoppedByte : Prop :=
  ∀ (s : State) (b : Byte) (i : Instr), s.cfg.wf = true → s.env.inputs = [] → s.foregroundFree → s.fg = .drain →
    s.popped = some b → decode s.cfg (.byteClass b) = .ok i →
    step s = exec i { s with popped := none }

/-- While S.CMD waits, the popped byte is the selector: the step is the operation its reply class names, on the queue without
that byte; with no byte it is REPLY.NONE (R103, R221). -/
def Obligations.AReplyStepRunsTheReplyOperation : Prop :=
  ∀ (s : State), s.cfg.wf = true → s.env.inputs = [] → s.cmd.writeDue = false → s.cmd.phase = .wait →
    s.tx.phase.atRest = true →
    (∀ b i, s.queueHead = some b → decode s.cfg (.reply b) = .ok i → step s = exec i (queueDrop s)) ∧
    (s.queueHead = none → step s = exec .replyNone s)

/-- A falling edge made by DEV while the handler is enabled: the step is RX.STALE and then the operation the pair
(rx_bit_count, d) selects (R95, R130); while it is suppressed the edge changes nothing but the lines.
That RX.STALE comes before the bit is decision D5 of the spec; that the edge is taken in the step that caused it, with the data
level after that step, is DEDUCED, log 21. -/
def Obligations.AnEdgeStepRunsTheReceiveOperation : Prop :=
  ∀ (s : State) (dataLow : Bool) (rest : List Stimulus), s.cfg.wf = true → s.clk = true →
    (s.rx.suppressed = true →
      step (s.withInputs (.dev true dataLow :: rest)) = .next (setDev true dataLow (s.withInputs rest))) ∧
    (∀ i, s.rx.suppressed = false → s.cfg.rxImpl = .edge →
      decode s.cfg (.rxsel (rxselWord (rxStale s).rx.bitCount (setDev true dataLow s).data)) = .ok i →
      step (s.withInputs (.dev true dataLow :: rest)) =
        exec i (rxStale (setDev true dataLow (s.withInputs rest))))

/-- Every other action of the environment (R11, R22, R23, R25, R27): the USB stack's events and the device's eleven pulses are
the operations LED_IN, R.DELIVER.REQ and FRAME11; a line change without a falling edge, the clock and the wake event touch
inputs only. The edge latched in the suppression of the write that just ended is never delivered where RESTORE_SPURIOUS_EDGE is
`never` (D15); where it is `maybe` it is one RX step, once (log 18). -/
def Obligations.AnEventStepRunsItsOperation : Prop :=
  ∀ (s : State) (u : Byte) (w : BitVec 11) (n : Nat) (c d : Bool) (rest : List Stimulus), s.cfg.wf = true →
    step (s.withInputs (.ledIn u :: rest)) = exec (.ledIn u) (s.withInputs rest) ∧
    step (s.withInputs (.reportReq :: rest)) = exec .rDeliverReq (s.withInputs rest) ∧
    step (s.withInputs (.frame w :: rest)) = exec (.frame11 w) (s.withInputs rest) ∧
    step (s.withInputs (.ms n :: rest)) = .next (advance n (s.withInputs rest)) ∧
    step (s.withInputs (.wake :: rest)) = .next (s.withInputs rest) ∧
    (s.clk = false ∨ c = false → step (s.withInputs (.dev c d :: rest)) = .next (setDev c d (s.withInputs rest))) ∧
    (s.cfg.restoreSpuriousEdge = .never → step (s.withInputs (.spuriousEdge :: rest)) = .next (s.withInputs rest)) ∧
    (s.cfg.restoreSpuriousEdge = .maybe →
      (s.edgeLatched = true → writeJustEnded s = true →
        step (s.withInputs (.spuriousEdge :: rest)) = exec .rxStep { s.withInputs rest with edgeLatched := false } ∧
        ∀ t, step (s.withInputs (.spuriousEdge :: rest)) = .next t → t.edgeLatched = false) ∧
      (s.edgeLatched = false ∨ writeJustEnded s = false →
        step (s.withInputs (.spuriousEdge :: rest)) = .next (s.withInputs rest)))

/-! ## Decoding -/

/-- Decoding the encoding of a well-formed operation gives it back, every operand at every value the encoding admits. -/
def Obligations.DecodeOfEncodeIsTheOperation : Prop :=
  ∀ (c : Config) (i : Instr), c.wf = true → WellFormed c i = true → decode c (encode c i) = .ok i

/-- Each selector has one meaning: what it decodes to is well formed and encodes to that selector. -/
def Obligations.ADecodedSelectorIsTheEncoding : Prop :=
  ∀ (c : Config) (sel : Selector) (i : Instr), decode c sel = .ok i → encode c i = sel ∧ WellFormed c i = true

/-- R95: the RXSEL table, row by row.
That 11 to 15 are rejected is the model's, log 20. -/
def Obligations.TheReceiveSelectorTable : Prop :=
  ∀ (c : Config) (k : BitVec 4) (d : Bool),
    (k = 0 → decode c (.rxsel (rxselWord k d)) = .ok (if d then .rxSpurious else .rxStart)) ∧
    (1 ≤ k.toNat ∧ k.toNat ≤ 8 → decode c (.rxsel (rxselWord k d)) = .ok (.rxData k d)) ∧
    (k = 9 → decode c (.rxsel (rxselWord k d)) = .ok (.rxParity d)) ∧
    (k = 10 → decode c (.rxsel (rxselWord k d)) = .ok (.rxStop d)) ∧
    (11 ≤ k.toNat → decode c (.rxsel (rxselWord k d)) = .reject .rxselUnreachable)

/-- Words written out from the spec's encodings, one per format, decode to their operations (PRESUMED default values, log 2). -/
def Obligations.WordsOfTheSpecDecode : Prop :=
  decode .default (.rxsel 0b00000) = .ok .rxStart ∧ decode .default (.rxsel 0b00111) = .ok (.rxData 3 true) ∧
  decode .default (.rxsel 0b10101) = .ok (.rxStop true) ∧
  decode .default (.frame11 0b10000111000) = .ok (.frame11 0b10000111000) ∧
  decode .default (.byteClass 0b11110000) = .ok .tRelease ∧ decode .default (.byteClass 0b00011100) = .ok .tKey1C ∧
  decode .default (.reply 0b11111010) = .ok .replyAck ∧ decode .default (.cmd .setLeds 0b11101101) = .ok .cmdSetLeds ∧
  decode .default (.ledLegacy 0b00000100) = .ok (.ledLegacy true false false) ∧
  decode .default (.event 0b100000100) = .ok (.event true 0x04)

/-- R94: Frame(b) is a valid frame with byte b, its eleven levels in order. -/
def Obligations.FrameOfAByteIsValid : Prop :=
  ∀ b : Byte, frameValid (frameOf b) = true ∧ frameByte (frameOf b) = b ∧
    frameBits (frameOf b) =
      [false, b.getLsbD 0, b.getLsbD 1, b.getLsbD 2, b.getLsbD 3, b.getLsbD 4, b.getLsbD 5, b.getLsbD 6, b.getLsbD 7,
       parityBit b, true]

/-! ## Receive path -/

/-- R131: RX.STALE.
Decision D5 of the spec. -/
def Obligations.AStaleFrameIsDiscarded : Prop :=
  ∀ s : State, ∃ t, exec .rxStale s = .next t ∧
    (s.rx.bitCount ≠ 0 ∧ elapsed s.cfg.timeW s.rx.lastBitTime s.env.msNow > s.cfg.tStaleMs →
      t = { s with
        rx := { s.rx with bitCount := 0 }
        out := { s.out with faults := .staleFrame s.rx.bitCount :: s.out.faults } }) ∧
    (s.rx.bitCount = 0 ∨ elapsed s.cfg.timeW s.rx.lastBitTime s.env.msNow ≤ s.cfg.tStaleMs → t = s)

/-- R132, R134: at (0, 0) RX.START begins a frame; at (k, d), k in 1..8, RX.DATA stores d in bit k-1 and accumulates the
parity. -/
def Obligations.AFrameIsAssembledBitByBit : Prop :=
  (∀ s : State, decode s.cfg (.rxsel (rxselWord 0 false)) = .ok .rxStart ∧
    ∃ t, exec .rxStart s = .next t ∧ t = { s with rx := t.rx } ∧ t.rx.data = 0x00 ∧ t.rx.parity = false ∧
      t.rx.lastBitTime = s.env.msNow ∧ t.rx.bitCount = 1 ∧ t.rx.suppressed = s.rx.suppressed) ∧
  (∀ (s : State) (k : BitVec 4) (d : Bool), 1 ≤ k.toNat → k.toNat ≤ 8 →
    decode s.cfg (.rxsel (rxselWord k d)) = .ok (.rxData k d) ∧
    ∃ t, exec (.rxData k d) s = .next t ∧ t = { s with rx := t.rx } ∧
      (∀ j < 8, t.rx.data.getLsbD j = if j + 1 = k.toNat then d else s.rx.data.getLsbD j) ∧
      t.rx.parity = (s.rx.parity ^^ d) ∧ t.rx.lastBitTime = s.env.msNow ∧ t.rx.bitCount.toNat = k.toNat + 1 ∧
      t.rx.suppressed = s.rx.suppressed)

/-- R133, R135: RX.PARITY accumulates the parity bit, its verdict left to the stop bit (the spec's decision D7); RX.SPURIOUS
changes nothing, not even `rx_last_bit_time` (D6). -/
def Obligations.TheParityBitAndTheExtraneousPulse : Prop :=
  (∀ (s : State) (d : Bool),
    ∃ t, exec (.rxParity d) s = .next t ∧ t = { s with rx := t.rx } ∧ t.rx.data = s.rx.data ∧
      t.rx.parity = (s.rx.parity ^^ d) ∧ t.rx.lastBitTime = s.env.msNow ∧ t.rx.bitCount = 10 ∧
      t.rx.suppressed = s.rx.suppressed) ∧
  (∀ s : State, exec .rxSpurious s = .next s)

/-- R136, R137: a stop bit 1 with odd parity ends a valid frame: its byte is pushed, `resend_request` cleared, even if the push
is dropped.
Decisions D7, D8 of the spec. -/
def Obligations.AValidStopBitQueuesTheByte : Prop :=
  ∀ s : State, QueueInv s → s.rx.parity = true →
    ∃ t, exec (.rxStop true) s = .next t ∧
      t = { s with rx := { s.rx with lastBitTime := s.env.msNow, bitCount := 0 }, resendRequest := false, q := t.q, out := t.out } ∧
      (s.queueFull = false → t.queued = s.queued ++ [s.rx.data] ∧ t.out = s.out) ∧
      (s.queueFull = true → t.q = s.q ∧
        t.out = { s.out with faults := .queueOverflow s.rx.data :: s.out.faults })

/-- R136, R138, R262: any other stop bit ends a faulty frame: the byte is discarded, `resend_request` set, the parity fault
logged before the framing fault.
Decision D7 of the spec. -/
def Obligations.AFaultyStopBitRequestsAResend : Prop :=
  ∀ (s : State) (d : Bool), (d && s.rx.parity) = false →
    ∃ t, exec (.rxStop d) s = .next t ∧
      t = { s with rx := { s.rx with lastBitTime := s.env.msNow, bitCount := 0 }, resendRequest := true, out := t.out } ∧
      t.out.reports = s.out.reports ∧
      t.out.faults =
        (if d = false then [.framingFault s.rx.data] else []) ++
        (if s.rx.parity = false then [.parityFault s.rx.data] else []) ++ s.out.faults

/-- R130: RX.STEP: lost while suppressed; else RX.STALE first, then the operation the selector names, with d the level of
`data`.
Decision D5 of the spec. -/
def Obligations.TheReceiveStep : Prop :=
  ∀ s : State,
    (s.rx.suppressed = true → exec .rxStep s = .next s) ∧
    (s.rx.suppressed = false → s.cfg.rxImpl = .edge → ∀ i,
      decode s.cfg (.rxsel (rxselWord (rxStale s).rx.bitCount s.data)) = .ok i → exec .rxStep s = exec i (rxStale s)) ∧
    (s.rx.suppressed = false → s.cfg.rxImpl = .edge → s.rx.bitCount.toNat ≤ 10 → ∃ t, exec .rxStep s = .next t)

/-- R139: eleven falling edges that carry Frame(b), each gap at most `T_STALE_MS`, put b at the end of the queue; nothing but
LineState, the queue's end, the flag and the inputs changes.
R139 is derived in the spec. -/
def Obligations.AGoodFrameReachesTheQueue : Prop :=
  ∀ (s : State) (b : Byte) (gaps : List Nat) (rest : List Stimulus),
    s.cfg.wf = true → s.cfg.rxImpl = .edge → QueueInv s → s.rx.suppressed = false → s.rx.bitCount = 0 →
    s.drive = { clkLow := false, dataLow := false } → s.env.devClkLow = false → s.queueFull = false →
    gaps.length = 11 → (∀ g ∈ gaps.tail, g ≤ s.cfg.tStaleMs) →
    ∃ t, run 33 (s.withInputs (clockBits gaps (frameBits (frameOf b)) ++ rest)) = .next t ∧
      t.queued = s.queued ++ [b] ∧ t.rx.bitCount = 0 ∧ t.rx.data = b ∧ t.resendRequest = false ∧ t.env.inputs = rest ∧
      t = { s with env := t.env, rx := t.rx, q := t.q, resendRequest := t.resendRequest }

/-- Eleven sampled bits with start 0 on an idle enabled receiver of the edge-driven build (R93, R137, R138): a valid frame queues
its byte, any other queues nothing and leaves a resend request pending. Any eleven bits are taken (no form stops).
Eleven edges as one operation: log 15, 28. -/
def Obligations.ElevenBitsAreJudgedAsAFrame : Prop :=
  ∀ (s : State) (w : BitVec 11), s.cfg.rxImpl = .edge → QueueInv s → s.rx.suppressed = false → s.rx.bitCount = 0 →
    ∃ t, exec (.frame11 w) s = .next t ∧ t.rx.suppressed = false ∧
      (w.getLsbD 0 = false → t.rx.bitCount = 0 ∧
        (frameValid w = true → t.resendRequest = false ∧
          t.queued = if s.queueFull then s.queued else s.queued ++ [frameByte w]) ∧
        (frameValid w = false → t.resendRequest = true ∧ t.q = s.q))

/-- R143: the frame-level contract of the PERIPHERAL build, and what the model refuses there (log 17): an edge-level event
while the peripheral is enabled.
Decision D30 of the spec. -/
def Obligations.ThePeripheralContract : Prop :=
  ∀ (s : State) (w : BitVec 11), s.cfg.rxImpl = .peripheral → QueueInv s →
    (s.rx.suppressed = true → exec (.frame11 w) s = .next s) ∧
    (s.rx.suppressed = false → w.getLsbD 0 = false → frameValid w = true →
      ∃ t, exec (.frame11 w) s = .next t ∧ t = { s with q := t.q, resendRequest := false, out := t.out } ∧
        t.queued = if s.queueFull then s.queued else s.queued ++ [frameByte w]) ∧
    (s.rx.suppressed = false → w.getLsbD 0 = false → frameValid w = false →
      ∃ t, exec (.frame11 w) s = .next t ∧ t = { s with resendRequest := true, out := t.out }) ∧
    (s.rx.suppressed = false → exec .rxStep s = .refused .peripheralBitLevel)

/-! ## ByteQueue -/

/-- R62: Q.PUSH writes the cell at `q_wr` and moves `q_wr`; into a full ring the new byte is dropped. -/
def Obligations.PushAppendsOrDrops : Prop :=
  ∀ (s : State) (b : Byte), QueueInv s →
    ∃ t, exec (.qPush b) s = .next t ∧
      ((s.q.wr + 1) % s.cfg.queueSlots = s.q.rd →
        t = { s with out := { s.out with faults := .queueOverflow b :: s.out.faults } }) ∧
      ((s.q.wr + 1) % s.cfg.queueSlots ≠ s.q.rd →
        t = { s with q := { t.q with rd := s.q.rd } } ∧ t.q.wr = (s.q.wr + 1) % s.cfg.queueSlots ∧
        t.q.buf.read s.q.wr = b ∧ (∀ a, a ≠ s.q.wr → t.q.buf.read a = s.q.buf.read a) ∧
        t.queued = s.queued ++ [b])

/-- R63: Q.POP takes the byte at `q_rd` out, once; from an empty ring it answers none and changes nothing. -/
def Obligations.PopTakesTheOldestByte : Prop :=
  ∀ s : State, QueueInv s →
    ∃ t, exec .qPop s = .next t ∧
      (s.q.rd = s.q.wr → t = { s with popped := none }) ∧
      (s.q.rd ≠ s.q.wr →
        t = { s with
          popped := some (s.q.buf.read s.q.rd)
          q := { s.q with rd := (s.q.rd + 1) % s.cfg.queueSlots } } ∧
        s.queued = s.q.buf.read s.q.rd :: t.queued)

/-- R61: empty, full and the number of queued bytes.
N at least 33 is decision D4 of the spec. -/
def Obligations.TheRingHoldsAtMostNMinusOneBytes : Prop :=
  ∀ s : State, s.cfg.wf = true → QueueInv s →
    s.queued.length = s.occupancy ∧ s.occupancy ≤ s.cfg.queueSlots - 1 ∧
    (s.queued = [] ↔ s.q.wr = s.q.rd) ∧
    ((s.q.wr + 1) % s.cfg.queueSlots = s.q.rd ↔ s.queued.length = s.cfg.queueSlots - 1)

/-! ## Translator -/

/-- R182, R183, R184, R188: a prefix byte sets its own flag, leaves the other two, and yields no event (the spec's decision D16);
a pair in the EVENT format stands as the translator's result (R102; the model's reading, log 15). -/
def Obligations.APrefixByteSetsItsFlag : Prop :=
  (∀ (s : State) (b : Byte),
    exec .tRelease s = .next { s with tr := { s.tr with release := true }, event := none } ∧
    exec .tReleaseSetX s = .next { s with tr := { s.tr with release := true }, event := none } ∧
    exec (.tExt b) s = .next { s with tr := { s.tr with extended := true }, event := none } ∧
    exec .tSpecial s = .next { s with tr := { s.tr with special := true }, event := none }) ∧
  (∀ (s : State) (rel : Bool) (id : Byte), exec (.event rel id) s = .next { s with event := some (id, rel) })

/-- R185, R186: a key byte resolves through the selected table or to `SPECIAL_ID`; the state goes neutral whether or not an
identifier was found; T.KEY[0x1C] is that operation on the byte 0x1C; every byte that is no prefix value is a key byte. -/
def Obligations.AKeyByteResolvesAndClearsTheFlags : Prop :=
  ∀ (s : State) (i : Instr) (b id : Byte), (i = .tKey b ∨ (i = .tKey1C ∧ b = 0x1C)) →
    (id = if s.tr.special then s.cfg.active.specialId
      else if s.tr.extended then tableAt s.cfg.active.extended b else tableAt s.cfg.active.primary b) →
    (∃ t, exec i s = .next t ∧ t = { s with tr := Translator.neutral, event := t.event } ∧
      (id = 0x00 → t.event = none) ∧ (id ≠ 0x00 → t.event = some (id, s.tr.release))) ∧
    (b ≠ s.cfg.active.releasePrefix → b ∉ s.cfg.active.extPrefixes → s.cfg.active.specialPrefix ≠ some b →
      exec (.translate b) s = exec i s)

/-- R180: Translate(b), by the value of b in the rule's order; it is the operation whose selector b is, and it reads and writes
no state but the three flags and its result. -/
def Obligations.TranslateDispatchesOnTheByteClass : Prop :=
  ∀ (s : State) (b : Byte),
    exec (.translate b) s =
      (if b = s.cfg.active.releasePrefix then exec .tRelease s
       else if b ∈ s.cfg.active.extPrefixes then exec (.tExt b) s
       else if s.cfg.active.specialPrefix = some b then exec .tSpecial s
       else exec (.tKey b) s) ∧
    (∀ i, decode s.cfg (.byteClass b) = .ok i → exec (.translate b) s = exec i s) ∧
    (∃ t, exec (.translate b) s = .next t ∧ t = { s with tr := t.tr, event := t.event }) ∧
    (∀ u : State, u.cfg = s.cfg → u.tr = s.tr → ∃ t v, exec (.translate b) s = .next t ∧ exec (.translate b) u = .next v ∧
      v.tr = t.tr ∧ v.event = t.event)

/-- R190: a mapped byte, then the same after a release prefix: same identifier, pressed then released, neutral again.
R190's terms are derived in the spec. -/
def Obligations.TranslationRoundTrip : Prop :=
  ∀ (s : State) (b : Byte), s.tr = Translator.neutral → classify s.cfg b = .key → tbl s.cfg false b ≠ 0x00 →
    ∃ t1 t2 t3, exec (.translate b) s = .next t1 ∧ t1.event = some (tbl s.cfg false b, false) ∧
      exec (.translate s.cfg.active.releasePrefix) t1 = .next t2 ∧ t2.event = none ∧
      exec (.translate b) t2 = .next t3 ∧ t3.event = some (tbl s.cfg false b, true) ∧ t3.tr = Translator.neutral

/-- R184, R188, R191: after the special prefix and any further prefix bytes, none of which yields an event, the next key byte
yields `SPECIAL_ID`, released exactly if the release prefix was among them, and the state is neutral.
Decision D16 of the spec. -/
def Obligations.TheSpecialPrefixIsSticky : Prop :=
  ∀ (s : State) (p x : Byte) (qs : List Byte), s.cfg.wf = true → s.tr = Translator.neutral →
    s.cfg.active.specialPrefix = some p → classify s.cfg x = .key → (∀ q ∈ qs, classify s.cfg q ≠ .key) →
    ∃ u t, translateAll (p :: qs) s = .next u ∧ u.event = none ∧ exec (.translate x) u = .next t ∧
      t.tr = Translator.neutral ∧ t.event = some (s.cfg.active.specialId, decide (s.cfg.active.releasePrefix ∈ qs))

/-! ## Matrix and report -/

/-- R201, R202: M.APPLY leaves KM[id] = not rel and every other bit as it was; applied twice it is as once. -/
def Obligations.AnEventSetsItsMatrixBit : Prop :=
  ∀ (s : State) (id : Byte) (rel : Bool),
    ∃ t, exec (.mApply id rel) s = .next t ∧ t = { s with km := t.km } ∧
      (s.km.getLsbD id.toNat ≠ rel → t = s) ∧
      (∀ j < 256, t.km.getLsbD j = if j = id.toNat then !rel else s.km.getLsbD j) ∧
      exec (.mApply id rel) t = .next t

/-- R106, R107, R108: the eight bytes of the report: REPORT8, with `REPORT_SLOTS` in the place of six; and the sentinel alone put
into the slots of the report under construction, modifier byte and byte 1 kept (ROLLOVER_SENTINEL; the model's reading, log 15).
Bit and slot order: decisions D19, D20 of the spec; the bytes behind the last slot: log 30. -/
def Obligations.TheReportFormat : Prop :=
  (∀ s : State, ∃ (t : State) (h : List Nat), exec .report8 s = .next t ∧ t = { s with built := t.built } ∧
    (∀ i < 8, t.built.modifiers.getLsbD i = s.km.getLsbD (0xE0 + i)) ∧ t.built.reserved = 0x00 ∧
    h.Pairwise (· < ·) ∧
    (∀ i, i ∈ h ↔ ((1 ≤ i ∧ i ≤ 0xDF) ∨ (0xE8 ≤ i ∧ i ≤ 0xFF)) ∧ s.km.getLsbD i = true) ∧
    (h.length ≤ s.cfg.reportSlots → ∀ k < 6, (t.built.byte (2 + k)).toNat =
      if hk : k < h.length ∧ k < s.cfg.reportSlots then h[k]'hk.1 else 0) ∧
    (s.cfg.reportSlots < h.length → ∀ k < 6, t.built.byte (2 + k) =
      if k < s.cfg.reportSlots then s.cfg.rolloverSentinel else 0x00)) ∧
  (∀ s : State, ∃ t, exec .rolloverSentinel s = .next t ∧ t = { s with built := t.built } ∧
    t.built.modifiers = s.built.modifiers ∧ t.built.reserved = s.built.reserved ∧
    (∀ k < 6, t.built.byte (2 + k) = if k < s.cfg.reportSlots then s.cfg.rolloverSentinel else s.built.byte (2 + k)))

/-- R203: the scan of R.BUILD gives, for every matrix, the report of the format; it changes nothing but its result.
Decision D19 of the spec. -/
def Obligations.TheScanBuildsTheReport : Prop :=
  (∀ (c : Config) (km : Matrix), buildReport c km = reportOf c km) ∧
  (∀ s : State, exec .rBuild s = .next { s with built := reportOf s.cfg s.km })

/-- R208: R.DELIVER emits the report exactly when it differs from `last_report`; in the loop it runs once the drain has found
the queue empty.
Comparing all 8 bytes is decision D21 of the spec, the order of the loop D26; the positions and the step grain are the model's,
log 9, 10. -/
def Obligations.DeliveryOnChange : Prop :=
  (∀ s : State, ∃ t, exec .rDeliver s = .next t ∧
    (reportOf s.cfg s.km = s.lastReport → t = s) ∧
    (reportOf s.cfg s.km ≠ s.lastReport →
      t = { s with
        lastReport := reportOf s.cfg s.km
        out := { s.out with reports := reportOf s.cfg s.km :: s.out.reports } })) ∧
  (∀ s : State, s.cfg.wf = true → s.foregroundFree → s.env.inputs = [] →
    (s.fg = .drain → s.popped = none → s.event = none → s.q.wr = s.q.rd → step s = .next { s with fg := .deliver }) ∧
    (s.fg = .deliver → step s = exec .rDeliver { s with fg := .led }))

/-- Scenario A (R185, R201, R203, R208, R238): the one queued byte of an unheld non-modifier key, the translator neutral and the
matrix empty, is popped, translated, applied and reported in five steps of FG.
The five-step grain is the model's, log 10. -/
def Obligations.AQueuedKeyByteReachesTheReport : Prop :=
  ∀ (s : State) (b : Byte), Inv s → s.foregroundFree → s.fg = .drain → s.popped = none → s.event = none →
    s.env.inputs = [] → s.queued = [b] → s.tr = Translator.neutral → s.km = 0 → s.lastReport = Report.zero →
    classify s.cfg b = .key → tbl s.cfg false b ≠ 0x00 → (tbl s.cfg false b).toNat < 0xE0 →
    ∃ t, run 5 s = .next t ∧ t.fg = .led ∧ t.queued = [] ∧ t.km.getLsbD (tbl s.cfg false b).toNat = true ∧
      t.lastReport = { Report.zero with slot0 := tbl s.cfg false b } ∧ t.out.reports = t.lastReport :: s.out.reports

/-! ## Write path -/

/-- R151, R104, R236: TX.WRITE at rest starts a write, CMD.RESEND one of `CMD_RESEND`; in a running write the call is turned away
(the model's fault `reentrantWrite`, log 19).
Decision D33 of the spec. -/
def Obligations.AWriteStartsOnlyAtRest : Prop :=
  ∀ (s : State) (b : Byte),
    (s.tx.phase = .idle ∨ s.tx.phase = .done →
      exec (.txWrite b) s = .next { s with
        tx := { phase := .waitIdle, byte := b, index := 0, t0 := s.env.msNow, result := s.tx.result } } ∧
      exec .cmdResend s = .next { s with
        tx := { phase := .waitIdle, byte := s.cfg.cmdResend, index := 0, t0 := s.env.msNow, result := s.tx.result } }) ∧
    (s.tx.phase ≠ .idle → s.tx.phase ≠ .done →
      exec (.txWrite b) s = .fault .reentrantWrite ∧ exec .cmdResend s = .fault .reentrantWrite)

/-- R152, R153: one poll of TX.WAIT_IDLE, the idle test before the deadline.
Decisions D5, D12 of the spec. -/
def Obligations.TheBusIdlePoll : Prop :=
  ∀ s u : State, u = rxStale s →
    ∃ t, exec .txWaitIdle s = .next t ∧
      (u.clk = true ∧ u.data = true ∧ u.rx.bitCount = 0 → t = { u with tx := { u.tx with phase := .settle } }) ∧
      (¬ (u.clk = true ∧ u.data = true ∧ u.rx.bitCount = 0) →
        (elapsed s.cfg.timeW s.tx.t0 s.env.msNow > s.cfg.tIdleMs → exec (.txFail .busBusy) u = .next t) ∧
        (elapsed s.cfg.timeW s.tx.t0 s.env.msNow ≤ s.cfg.tIdleMs → t = u))

/-- R155, R157, R158, R300: the re-check after the settle delay masks the handler in the same step, with no frame in flight, else
back to step 1 under the same deadline; then the inhibit; then the start bit and the clock release.
Decisions D11, D12, D13 of the spec. -/
def Obligations.TheHandlerIsMaskedBeforeTheLinesAreDriven : Prop :=
  (∀ s u : State, u = rxStale s →
    ∃ t, exec .txSettle s = .next t ∧
      (u.clk = true ∧ u.data = true ∧ u.rx.bitCount = 0 →
        t = { u with rx := { u.rx with suppressed := true }, tx := { u.tx with phase := .inhibit } } ∧ t.rx.bitCount = 0) ∧
      (¬ (u.clk = true ∧ u.data = true ∧ u.rx.bitCount = 0) → t = { u with tx := { u.tx with phase := .waitIdle } })) ∧
  (∀ s : State,
    exec .txInhibit s = .next { s with
      drive := { s.drive with clkLow := true }
      tx := { s.tx with t0 := s.env.msNow, phase := .start } } ∧
    exec .txStart s = .next { s with
      drive := { clkLow := false, dataLow := true }
      tx := { s.tx with index := 0, phase := .waitLow } })

/-- R159, R160: at the low phase of device clock pulse k the host puts wire bit k of Frame(tx_byte) on the line; then it waits
for the device to release the clock.
Decision D10 of the spec. -/
def Obligations.AClockPulsePlacesTheNextFrameBit : Prop :=
  ∀ s : State,
    ((s.clk = false → s.tx.index.toNat < 10 →
      ∃ t, exec .txWaitLow s = .next t ∧ t = { s with drive := { s.drive with dataLow := t.drive.dataLow }, tx := t.tx } ∧
        t.tx = { s.tx with index := s.tx.index + 1, phase := .waitHigh } ∧ t.tx.index.toNat = s.tx.index.toNat + 1 ∧
        t.drive.dataLow = !(frameOf s.tx.byte).getLsbD (s.tx.index.toNat + 1)) ∧
     (s.clk = true → elapsed s.cfg.timeW s.tx.t0 s.env.msNow > s.cfg.tClockoutMs →
       exec .txWaitLow s = exec (.txFail .clockTimeout) s) ∧
     (s.clk = true → elapsed s.cfg.timeW s.tx.t0 s.env.msNow ≤ s.cfg.tClockoutMs → exec .txWaitLow s = .next s)) ∧
    ((s.clk = true → s.tx.index.toNat < 10 → exec .txWaitHigh s = .next { s with tx := { s.tx with phase := .waitLow } }) ∧
     (s.clk = true → 10 ≤ s.tx.index.toNat → exec .txWaitHigh s = .next { s with tx := { s.tx with phase := .ackWaitLow } }) ∧
     (s.clk = false → elapsed s.cfg.timeW s.tx.t0 s.env.msNow > s.cfg.tClockoutMs →
       exec .txWaitHigh s = exec (.txFail .clockTimeout) s) ∧
     (s.clk = false → elapsed s.cfg.timeW s.tx.t0 s.env.msNow ≤ s.cfg.tClockoutMs → exec .txWaitHigh s = .next s))

/-- R97, R165, R166: the acknowledgment: data 0 at the low phase of the eleventh pulse acknowledges, data 1 fails with TxNoAck
(TX.LINE_ACK is that decision alone); then the end of the pulse is awaited.
Decision D10 of the spec. -/
def Obligations.TheLineAcknowledgment : Prop :=
  ∀ s : State,
    (exec (.txLineAck false) s = .next { s with tx := { s.tx with phase := .ackWaitRelease } } ∧
     exec (.txLineAck true) s = exec (.txFail .noAck) s) ∧
    ((s.clk = false → s.data = false →
       exec .txAckWaitLow s = .next { s with tx := { s.tx with phase := .ackWaitRelease } }) ∧
     (s.clk = false → s.data = true → exec .txAckWaitLow s = exec (.txFail .noAck) s) ∧
     (s.clk = true → elapsed s.cfg.timeW s.tx.t0 s.env.msNow > s.cfg.tClockoutMs →
       exec .txAckWaitLow s = exec (.txFail .ackTimeout) s) ∧
     (s.clk = true → elapsed s.cfg.timeW s.tx.t0 s.env.msNow ≤ s.cfg.tClockoutMs → exec .txAckWaitLow s = .next s)) ∧
    ((s.clk = true → s.data = true → exec .txAckWaitRelease s = exec .txSucceed s) ∧
     (¬ (s.clk = true ∧ s.data = true) → elapsed s.cfg.timeW s.tx.t0 s.env.msNow > s.cfg.tClockoutMs →
       exec .txAckWaitRelease s = exec (.txFail .ackTimeout) s) ∧
     (¬ (s.clk = true ∧ s.data = true) → elapsed s.cfg.timeW s.tx.t0 s.env.msNow ≤ s.cfg.tClockoutMs →
       exec .txAckWaitRelease s = .next s) ∧
     (∃ t, exec .txAckWaitRelease s = .next t))

/-- R167, R168: both ends of a write release the lines and restore the handler; the fault is logged on failure. (`edgeLatched`
is the model's own field, log 18.)
Decision D14 of the spec. -/
def Obligations.EveryEndOfAWriteRestoresTheHandler : Prop :=
  ∀ (s : State) (f : TxFault),
    (∃ t, exec (.txFail f) s = .next t ∧
      t = { s with
        drive := { clkLow := false, dataLow := false }
        rx := { s.rx with suppressed := false }
        tx := { s.tx with result := false, phase := .done }
        edgeLatched := s.rx.suppressed
        out := { s.out with faults := .txFault f :: s.out.faults } }) ∧
    (∃ t, exec .txSucceed s = .next t ∧
      t = { s with
        drive := { clkLow := false, dataLow := false }
        rx := { s.rx with suppressed := false }
        tx := { s.tx with result := true, phase := .done }
        edgeLatched := s.rx.suppressed })

/-- R162, R170: past the deadlines no poll of a running write stays in its phase; and in every infinite run that is fair to
writes (`FairToWrites`) a running write reaches TX_DONE, unless the device lets the bus go idle and disturbs it again within the
settle delay without end (`HeldOff`): R153 and R155 make the idle test before the deadline (D12), so those two rules do not
exclude that, and R170, derived in the spec, says more than they give (log 32).
Strict limits are decision D3 of the spec. -/
def Obligations.NoPhaseOutlivesItsDeadline : Prop :=
  (∀ (s : State) (sel : Selector) (i : Instr), txSelector s.tx.phase = some sel → decode s.cfg sel = .ok i →
    elapsed s.cfg.timeW s.tx.t0 s.env.msNow > s.cfg.tIdleMs →
    elapsed s.cfg.timeW s.tx.t0 s.env.msNow > s.cfg.tClockoutMs →
    ∃ t, exec i s = .next t ∧ t.tx.phase ≠ s.tx.phase) ∧
  (∀ (x : Nat → Stimulus) (σ : Nat → State), Inv (σ 0) → RunOf x σ → FairToWrites x σ → (σ 0).tx.phase.atRest = false →
    (∃ n, (σ n).tx.phase = .done) ∨ HeldOff σ)

/-- R161: after the start bit, a device that clocks ten pulses reads Frame(tx_byte) at the rising edges, and one that then
acknowledges ends the write with success: lines released, handler restored.
Decision D10 of the spec. -/
def Obligations.ADeviceReadsTheFrameOfTheByte : Prop :=
  ∀ (s : State) (rest : List Stimulus), s.cfg.wf = true → s.cmd.writeDue = false → s.tx.phase = .waitLow → s.tx.index = 0 →
    s.drive = { clkLow := false, dataLow := true } → s.env.devClkLow = false → s.env.devDataLow = false →
    s.rx.suppressed = true →
    (∀ k ≤ 10, ∃ t, run (4 * k) (s.withInputs (deviceWrite ++ rest)) = .next t ∧
      t.clk = true ∧ t.data = (frameOf s.tx.byte).getLsbD k ∧ t.tx.index.toNat = k) ∧
    (∃ t, run 44 (s.withInputs (deviceWrite ++ rest)) = .next t ∧
      t = { s with
        env := { s.env with inputs := rest }
        drive := { clkLow := false, dataLow := false }
        rx := { s.rx with suppressed := false }
        tx := { s.tx with phase := .done, index := 10, result := true }
        edgeLatched := true })

/-! ## Session driver -/

/-- R221, R222, R223, R230, R233: S.CMD(b) at C_IDLE, for every byte b, counts its first attempt and makes TX.WRITE(b) due; while
the write runs it stays; when the write is done, success starts the reply wait and failure the next attempt at once. S.CMD always
answers a next state. The rows that send a byte of their own are that entry with that byte; a variant without the byte sends
nothing (log 27); inside an S.CMD they are turned away (the model's fault `reentrantCommand`, log 19).
Decision D22 of the spec; the rows as operations, log 15. -/
def Obligations.AnAttemptOfACommand : Prop :=
  (∀ (s : State) (b : Byte), s.cfg.wf = true → s.cmd.phase = .idle →
    exec (.sCmd b) s = .next { s with cmd := { s.cmd with phase := .send, byte := b, attempts := 1, writeDue := true } }) ∧
  (∀ (s : State) (b : Byte), ∃ t, exec (.sCmd b) s = .next t) ∧
  (∀ (s : State) (b : Byte), s.cmd.phase = .send →
    (s.tx.phase ≠ .done → exec (.sCmd b) s = .next s) ∧
    (s.tx.phase = .done → s.tx.result = true →
      exec (.sCmd b) s = .next { s with cmd := { s.cmd with phase := .wait, t0 := s.env.msNow } }) ∧
    (s.tx.phase = .done → s.tx.result = false → ∃ t, exec (.sCmd b) s = .next t ∧ AttemptFrom s t)) ∧
  (∀ s : State, s.cfg.wf = true → s.cmd.phase = .idle →
    exec .cmdSetLeds s = .next { s with
      cmd := { s.cmd with phase := .send, byte := s.cfg.cmdSetLeds, attempts := 1, writeDue := true } } ∧
    (∀ b, s.cfg.startupSeq[0]? = some b → exec .cmdSelectCodeSet s = .next { s with
      cmd := { s.cmd with phase := .send, byte := b, attempts := 1, writeDue := true } }) ∧
    (∀ b, s.cfg.startupSeq[2]? = some b → exec .cmdDisableTypematic s = .next { s with
      cmd := { s.cmd with phase := .send, byte := b, attempts := 1, writeDue := true } }) ∧
    (∀ c n sl, exec (.ledLegacy c n sl) s = .next { s with
      cmd := { s.cmd with phase := .send, byte := ledLegacyByte c n sl, attempts := 1, writeDue := true } })) ∧
  (∀ s : State,
    (s.cfg.startupSeq[0]? = none → exec .cmdSelectCodeSet s = .next s) ∧
    (s.cfg.startupSeq[2]? = none → exec .cmdDisableTypematic s = .next s)) ∧
  (∀ s : State, s.cmd.phase ≠ .idle →
    exec .cmdSetLeds s = .fault .reentrantCommand ∧
    (s.cfg.startupSeq[0]? ≠ none → exec .cmdSelectCodeSet s = .fault .reentrantCommand) ∧
    (s.cfg.startupSeq[2]? ≠ none → exec .cmdDisableTypematic s = .fault .reentrantCommand) ∧
    (∀ c n sl, exec (.ledLegacy c n sl) s = .fault .reentrantCommand))

/-- R224 to R228: what each reply does to S.CMD; and a poll of the reply wait takes the byte at the head of the queue as the
reply, whatever it is.
Decision D22 of the spec. -/
def Obligations.WhatAReplyDecides : Prop :=
  (∀ (s : State) (b : Byte),
    exec .replyAck s = .next { s with cmd := { s.cmd with phase := .idle, result := true } } ∧
    (∃ t, exec .replyResend s = .next t ∧ AttemptFrom s t) ∧
    (∃ t, exec (.replyOther b) s = .next t ∧
      AttemptFrom { s with out := { s.out with faults := .unexpectedReply b :: s.out.faults } } t) ∧
    (elapsed s.cfg.timeW s.cmd.t0 s.env.msNow > s.cfg.tReplyMs →
      ∃ t, exec .replyNone s = .next t ∧
        AttemptFrom { s with out := { s.out with faults := .replyTimeout s.cmd.byte :: s.out.faults } } t) ∧
    (elapsed s.cfg.timeW s.cmd.t0 s.env.msNow ≤ s.cfg.tReplyMs → exec .replyNone s = .next s)) ∧
  (∀ (s : State) (b x : Byte), QueueInv s → s.cmd.phase = .wait →
    (s.queueHead = some x → ∀ i, decode s.cfg (.reply x) = .ok i →
      exec (.sCmd b) s = exec i (queueDrop s) ∧ s.queued = x :: (queueDrop s).queued) ∧
    (s.queueHead = none → exec (.sCmd b) s = exec .replyNone s))

/-- R105, R234: `led_in(u)` only latches (a byte in the LED_USB format is such an event, the model's reading, log 15); the remap
of the byte, bit by bit.
Decision D25 of the spec. -/
def Obligations.AnLedByteIsLatchedAndRemapped : Prop :=
  ∀ (s : State) (u : Byte),
    (exec (.ledIn u) s = .next { s with ledUsb := u, ledPending := true } ∧
     exec (.ledUsb u) s = .next { s with ledUsb := u, ledPending := true }) ∧
    ((ledRemap u).getLsbD 2 = u.getLsbD 1 ∧ (ledRemap u).getLsbD 1 = u.getLsbD 0 ∧ (ledRemap u).getLsbD 0 = u.getLsbD 2 ∧
     (∀ i, 3 ≤ i → (ledRemap u).getLsbD i = false) ∧
     ledLegacyByte (u.getLsbD 1) (u.getLsbD 0) (u.getLsbD 2) = ledRemap u)

/-- R233: S.LED, position by position: read and clear; send the command byte; the remapped argument only if the command was
acknowledged; the argument's result ignored.
Decision D25 of the spec. -/
def Obligations.TheLedCommandSequence : Prop :=
  ∀ (s : State) (u : Byte), s.cfg.wf = true → s.foregroundFree → s.env.inputs = [] →
    (s.fg = .led → s.ledPending = true →
      step s = .next { s with ledPending := false, fg := .ledSend s.ledUsb } ∧
      exec .sLed s = .next { s with ledPending := false, fg := .ledSend s.ledUsb }) ∧
    (s.fg = .ledSend u → step s = .next { s with
      fg := .ledWait u
      cmd := { s.cmd with phase := .send, byte := s.cfg.cmdSetLeds, attempts := 1, writeDue := true } }) ∧
    (s.fg = .ledWait u → s.cmd.result = true → step s = .next { s with fg := .ledArgSend u }) ∧
    (s.fg = .ledWait u → s.cmd.result = false → step s = .next { s with fg := .sleep }) ∧
    (s.fg = .ledArgSend u → step s = .next { s with
      fg := .ledArgWait
      cmd := { s.cmd with phase := .send, byte := ledRemap u, attempts := 1, writeDue := true } }) ∧
    (s.fg = .ledArgWait → step s = .next { s with fg := .sleep })

/-- R230: S.STARTUP, the first thing after reset, position by position: LineInit; each byte of the sequence, in order, with its
own S.CMD; FAILED, `init_failed` and InitFatal at the first that is not acknowledged; RUN after the last.
Decisions D24 (the sequence) and D9 (LineInit) of the spec; the positions are the model's, log 9, 26. -/
def Obligations.TheStartupSequence : Prop :=
  (State.reset.fg = .boot ∧ State.reset.mode = .boot) ∧
  (∀ s : State, s.fg = .boot →
    exec .sStartup s = andThen (exec .lineInit s) (fun u => .next { u with fg := .startup 0 })) ∧
  (∀ (s : State) (i : Nat), s.cfg.wf = true → s.foregroundFree → s.env.inputs = [] →
    (s.fg = .boot → step s = exec .sStartup s ∧ step s = .next { s with
      drive := { clkLow := false, dataLow := false }, rx := { s.rx with suppressed := false }, fg := .startup 0 }) ∧
    (∀ c, s.fg = .startup i → s.cfg.startupSeq[i]? = some c → step s = exec (.sCmd c) { s with fg := .startupWait i }) ∧
    (s.fg = .startup i → s.cfg.startupSeq[i]? = none → step s = .next { s with mode := .run, fg := .loopTop }) ∧
    (s.fg = .startupWait i → s.cmd.result = true → step s = .next { s with fg := .startup (i + 1) }) ∧
    (s.fg = .startupWait i → s.cmd.result = false → ∃ t, step s = .next t ∧ t.initFailed = true ∧
      t = { s with
        mode := .failed
        fg := .halted
        out := { s.out with faults := .initFatal s.cmd.byte :: s.out.faults } }))

/-- R236: S.RESEND: nothing to do without a request; else one plain write of `CMD_RESEND`, and the flag cleared if it
succeeded.
Decision D8 of the spec. -/
def Obligations.AResendRequestIsServedOnce : Prop :=
  ∀ s : State, s.cfg.wf = true → s.foregroundFree → s.env.inputs = [] →
    (s.fg = .resend → s.resendRequest = false →
      step s = .next { s with fg := .drain } ∧ exec .sResend s = .next { s with fg := .drain }) ∧
    (s.fg = .resend → s.resendRequest = true →
      step s = .next { s with fg := .resendSend } ∧ exec .sResend s = .next { s with fg := .resendSend }) ∧
    (s.fg = .resendSend →
      step s = .next { s with
        fg := .resendWait
        tx := { phase := .waitIdle, byte := s.cfg.cmdResend, index := 0, t0 := s.env.msNow, result := s.tx.result } }) ∧
    (s.fg = .resendWait → s.tx.result = true → step s = .next { s with resendRequest := false, fg := .drain }) ∧
    (s.fg = .resendWait → s.tx.result = false → step s = .next { s with fg := .drain })

/-- R238, R240: one iteration with nothing to do passes S.LOOP, S.RESEND, Q.POP, R.DELIVER and S.SLEEP in this order and changes
nothing; S.LOOP begins an iteration only in mode RUN.
Decisions D26, D31 of the spec; the grain, log 10. -/
def Obligations.AnIdleLoopIterationChangesNothing : Prop :=
  (∀ s : State, s.cfg.wf = true → s.foregroundFree → s.env.inputs = [] → s.fg = .loopTop → s.mode = .run →
    s.resendRequest = false → s.q.wr = s.q.rd → s.popped = none → s.event = none → s.ledPending = false →
    reportOf s.cfg s.km = s.lastReport →
    run 1 s = exec .sLoop s ∧ run 2 s = .next { s with fg := .drain } ∧ run 3 s = .next { s with fg := .deliver } ∧
    run 4 s = .next { s with fg := .led } ∧ run 5 s = .next s) ∧
  (∀ s : State, exec .sSleep s = .next s ∧
    (s.mode = .run → exec .sLoop s = .next { s with fg := .resend }) ∧ (s.mode ≠ .run → exec .sLoop s = .next s))

/-! ## Time -/

/-- R84: elapsed time is what the clock advanced by, modulo 2^TIME_W, across a wrap too. -/
def Obligations.ElapsedTimeSurvivesTheWrap : Prop :=
  ∀ (s : State) (n : Nat), elapsed s.cfg.timeW s.env.msNow (advance n s).env.msNow = n % 2 ^ s.cfg.timeW
end

