-- ==== Sys2Proof/Laws/Config.lean ====
section
/-! SUPPORT. What a well-formed configuration gives: its limits, its active code set, the range of a table entry that is read. -/

namespace Sys2Proof

open Sys2Proof.Machine (tableAt tbl classify)

theorem Config.limits_of_wf {c : Config} (h : c.wf = true) :
    33 ≤ c.queueSlots ∧ 1 ≤ c.cmdMaxAttempts ∧ 9 ≤ c.timeW ∧ c.ackByte ≠ c.resendByte ∧
      1 ≤ c.reportSlots ∧ c.reportSlots ≤ 6 := by
  simp only [Config.wf, Bool.and_eq_true, Config.limitsWf, decide_eq_true_eq] at h
  exact h.1.1

theorem Config.active_wf {c : Config} (h : c.wf = true) : c.active.wf = true := by
  simp only [Config.wf, Bool.and_eq_true] at h
  unfold Config.active
  split
  · exact h.1.2
  · exact h.2

theorem CodeSetConfig.specialPrefix_of_wf {k : CodeSetConfig} (h : k.wf = true) {p : Byte} (hp : k.specialPrefix = some p) :
    p ≠ k.releasePrefix ∧ p ∉ k.extPrefixes := by
  simp only [CodeSetConfig.wf, Bool.and_eq_true, decide_eq_true_eq] at h
  exact h.1.1.1.2 p hp

theorem CodeSetConfig.specialId_of_wf {k : CodeSetConfig} (h : k.wf = true) : isKeyId k.specialId = true := by
  simp only [CodeSetConfig.wf, Bool.and_eq_true] at h
  exact h.1.1.2

/-- An entry read at a byte that is no prefix value is at most 0xE7 (R8 b, R181). -/
theorem tableAt_le {k : CodeSetConfig} {t : Table} (h : k.tableWf t = true) {b : Byte} (hb : k.isPrefix b = false) :
    (tableAt t b).toNat ≤ maxKeyId := by
  induction t with
  | nil => simp [tableAt]
  | cons e t ih =>
    simp only [CodeSetConfig.tableWf, List.all_cons, Bool.and_eq_true] at h
    unfold tableAt
    split
    · rename_i he
      subst he
      simpa [hb] using h.1
    · exact ih h.2

theorem isPrefix_of_key {c : Config} {b : Byte} (h : classify c b = .key) : c.active.isPrefix b = false := by
  unfold classify at h
  split_ifs at h with h1 h2 h3
  simp [CodeSetConfig.isPrefix, h1, h2, h3]

/-- A key byte's entry in either table is at most 0xE7. -/
theorem tbl_le {c : Config} (h : c.wf = true) {b : Byte} (hb : classify c b = .key) (ext : Bool) :
    (tbl c ext b).toNat ≤ maxKeyId := by
  have hw := Config.active_wf h
  simp only [CodeSetConfig.wf, Bool.and_eq_true] at hw
  unfold tbl
  split
  · exact tableAt_le hw.2 (isPrefix_of_key hb)
  · exact tableAt_le hw.1.2 (isPrefix_of_key hb)

end Sys2Proof
end

