-- ==== Sys2Proof/Laws/Decode.lean ====
section
/-! SUPPORT. The small encodings taken apart again: operand fields, the event word, the RXSEL word, the LED byte, the frame. -/

namespace Sys2Proof

open Sys2Proof.Machine

@[simp] theorem byteOperand_high (b : Byte) : (byteOperand b)[8] = false := by revert b; decide

@[simp] theorem byteOperand_low (b : Byte) : (byteOperand b).extractLsb' 0 8 = b := by revert b; decide

@[simp] theorem eventId_eventWord (rel : Bool) (id : Byte) : eventId (eventWord rel id) = id := by
  revert rel id; decide +kernel

@[simp] theorem eventRel_eventWord (rel : Bool) (id : Byte) : eventRel (eventWord rel id) = rel := by
  revert rel id; decide +kernel

@[simp] theorem rxselWord_count (k : BitVec 4) (d : Bool) : (rxselWord k d).extractLsb' 1 4 = k := by
  revert k d; decide

@[simp] theorem rxselWord_level (k : BitVec 4) (d : Bool) : (rxselWord k d)[0] = d := by
  revert k d; decide

@[simp] theorem ledLegacyByte_reserved (c n s : Bool) : (ledLegacyByte c n s).extractLsb' 3 5 = 0#5 := by
  revert c n s; decide

@[simp] theorem ledLegacyByte_caps (c n s : Bool) : (ledLegacyByte c n s)[2] = c := by revert c n s; decide

@[simp] theorem ledLegacyByte_num (c n s : Bool) : (ledLegacyByte c n s)[1] = n := by revert c n s; decide

@[simp] theorem ledLegacyByte_scroll (c n s : Bool) : (ledLegacyByte c n s)[0] = s := by revert c n s; decide

/-- The remapped LED byte has its five high bits clear, so it is a byte of the LED_LEGACY format. -/
theorem ledRemap_reserved (u : Byte) : (ledRemap u).extractLsb' 3 5 = 0#5 := by revert u; decide

theorem ledLegacyByte_of_reserved {b : Byte} (h : b.extractLsb' 3 5 = 0#5) :
    ledLegacyByte b[2] b[1] b[0] = b := by
  revert b; decide

/-- RXSEL read off the pair (rx_bit_count, d). -/
theorem decodeRxsel_word (k : BitVec 4) (d : Bool) :
    decodeRxsel (rxselWord k d) =
      if k.toNat = 0 then .ok (if d then .rxSpurious else .rxStart)
      else if k.toNat ≤ 8 then .ok (.rxData k d)
      else if k.toNat = 9 then .ok (.rxParity d)
      else if k.toNat = 10 then .ok (.rxStop d)
      else .reject .rxselUnreachable := by
  simp [decodeRxsel]

end Sys2Proof
end

