-- ==== Sys2Proof/Laws/Memory.lean ====
section
/-! SUPPORT. The ring's cells: every memory operation keeps the canonical form; a read after a write; every other cell is unchanged. -/

namespace Sys2Proof.Machine

theorem Memory.read_of_lt {m : Memory} {a : Nat} (h : ∀ x ∈ m, a < x.1) : Memory.read m a = Memory.unlisted := by
  induction m with
  | nil => rfl
  | cons x rest ih =>
    have hx : x.1 ≠ a := Nat.ne_of_gt (h x (by simp))
    simp only [Memory.read, hx, if_false]
    exact ih fun y hy => h y (by simp [hy])

theorem Memory.mem_erase {m : Memory} {a : Nat} {x : Host.Cell} (h : x ∈ Memory.erase m a) : x ∈ m := by
  induction m with
  | nil => simp [Memory.erase] at h
  | cons y rest ih =>
    simp only [Memory.erase] at h
    split at h
    · exact List.mem_cons_of_mem _ h
    · rcases List.mem_cons.mp h with rfl | h
      · simp
      · exact List.mem_cons_of_mem _ (ih h)

theorem Memory.mem_insert {m : Memory} {a : Nat} {b : Byte} {x : Host.Cell} (h : x ∈ Memory.insert m a b) :
    x = (a, b) ∨ x ∈ m := by
  induction m with
  | nil => simpa [Memory.insert] using h
  | cons y rest ih =>
    simp only [Memory.insert] at h
    split at h
    · rcases List.mem_cons.mp h with rfl | h
      · simp
      · rcases ih h with h | h <;> simp [h]
    · split at h
      · rcases List.mem_cons.mp h with h | h <;> simp [h]
      · rcases List.mem_cons.mp h with h | h
        · simp [h]
        · exact .inr h

/-- The cells a write lists are the cell written and those listed before. -/
theorem Memory.mem_write {m : Memory} {a : Nat} {b : Byte} {x : Host.Cell} (h : x ∈ Memory.write m a b) :
    x.1 = a ∨ x ∈ m := by
  unfold Memory.write at h
  split at h
  · exact .inr (Memory.mem_erase h)
  · rcases Memory.mem_insert h with rfl | h
    · exact .inl rfl
    · exact .inr h

theorem Memory.erase_wf {m : Memory} (h : m.wf) (a : Nat) : (Memory.erase m a).wf := by
  induction m with
  | nil => exact h
  | cons x rest ih =>
    obtain ⟨hp, hv⟩ := h
    rw [List.pairwise_cons] at hp
    have hr := ih ⟨hp.2, fun y hy => hv y (by simp [hy])⟩
    simp only [Memory.erase]
    split
    · exact ⟨hp.2, fun y hy => hv y (by simp [hy])⟩
    · refine ⟨List.pairwise_cons.mpr ⟨fun y hy => hp.1 y (Memory.mem_erase hy), hr.1⟩, fun y hy => ?_⟩
      rcases List.mem_cons.mp hy with rfl | hy
      · exact hv _ (by simp)
      · exact hr.2 y hy

theorem Memory.insert_wf {m : Memory} (h : m.wf) (a : Nat) {b : Byte} (hb : b ≠ Memory.unlisted) :
    (Memory.insert m a b).wf := by
  induction m with
  | nil => exact ⟨by simp [Memory.insert], by simpa [Memory.insert] using hb⟩
  | cons x rest ih =>
    obtain ⟨hp, hv⟩ := h
    rw [List.pairwise_cons] at hp
    have hr := ih ⟨hp.2, fun y hy => hv y (by simp [hy])⟩
    simp only [Memory.insert]
    split
    · next hlt =>
      refine ⟨List.pairwise_cons.mpr ⟨fun y hy => ?_, hr.1⟩, fun y hy => ?_⟩
      · rcases Memory.mem_insert hy with rfl | hy
        · exact hlt
        · exact hp.1 y hy
      · rcases List.mem_cons.mp hy with rfl | hy
        · exact hv _ (by simp)
        · exact hr.2 y hy
    · split
      · next heq =>
        refine ⟨List.pairwise_cons.mpr ⟨fun y hy => heq ▸ hp.1 y hy, hp.2⟩, fun y hy => ?_⟩
        rcases List.mem_cons.mp hy with rfl | hy
        · exact hb
        · exact hv y (by simp [hy])
      · next hlt hne =>
        have hax : a < x.1 := by omega
        refine ⟨List.pairwise_cons.mpr ⟨fun y hy => ?_, List.pairwise_cons.mpr hp⟩, fun y hy => ?_⟩
        · rcases List.mem_cons.mp hy with rfl | hy
          · exact hax
          · exact hax.trans (hp.1 y hy)
        · rcases List.mem_cons.mp hy with rfl | hy
          · exact hb
          · exact hv y hy

/-- A write keeps the canonical form. -/
theorem Memory.write_wf {m : Memory} (h : m.wf) (a : Nat) (b : Byte) : (Memory.write m a b).wf := by
  unfold Memory.write
  split
  · exact Memory.erase_wf h a
  · next hb => exact Memory.insert_wf h a hb

theorem Memory.read_erase {m : Memory} (h : m.wf) (a c : Nat) :
    Memory.read (Memory.erase m a) c = if c = a then Memory.unlisted else Memory.read m c := by
  induction m with
  | nil => simp [Memory.erase, Memory.read]
  | cons x rest ih =>
    obtain ⟨hp, hv⟩ := h
    rw [List.pairwise_cons] at hp
    have hr := ih ⟨hp.2, fun y hy => hv y (by simp [hy])⟩
    simp only [Memory.erase]
    split
    · next heq =>
      subst heq
      split
      · next hc => subst hc; exact Memory.read_of_lt hp.1
      · next hc => simp [Memory.read, Ne.symm hc]
    · next hne =>
      simp only [Memory.read, hr]
      by_cases hxc : x.1 = c
      · have : c ≠ a := by omega
        simp [hxc, this]
      · simp [hxc]

theorem Memory.read_insert {m : Memory} (h : m.wf) (a c : Nat) (b : Byte) :
    Memory.read (Memory.insert m a b) c = if c = a then b else Memory.read m c := by
  induction m with
  | nil =>
    by_cases hc : c = a
    · simp [Memory.insert, Memory.read, hc]
    · simp [Memory.insert, Memory.read, hc, Ne.symm hc]
  | cons x rest ih =>
    obtain ⟨hp, hv⟩ := h
    rw [List.pairwise_cons] at hp
    have hr := ih ⟨hp.2, fun y hy => hv y (by simp [hy])⟩
    simp only [Memory.insert]
    split
    · next hlt =>
      simp only [Memory.read, hr]
      by_cases hxc : x.1 = c
      · have : c ≠ a := by omega
        simp [hxc, this]
      · simp [hxc]
    · split
      · next heq =>
        by_cases hc : c = a
        · simp [Memory.read, hc]
        · have : ¬ x.1 = c := by omega
          simp [Memory.read, hc, Ne.symm hc, this]
      · by_cases hc : c = a
        · simp [Memory.read, hc]
        · simp [Memory.read, hc, Ne.symm hc]

/-- What a cell reads after a write: the written cell the byte written, every other cell what it read before. -/
theorem Memory.read_write {m : Memory} (h : m.wf) (a c : Nat) (b : Byte) :
    Memory.read (Memory.write m a b) c = if c = a then b else Memory.read m c := by
  unfold Memory.write
  split
  · next hb => rw [Memory.read_erase h, hb]
  · exact Memory.read_insert h a c b

theorem Memory.read_write_same {m : Memory} (h : m.wf) (a : Nat) (b : Byte) :
    Memory.read (Memory.write m a b) a = b := by simp [Memory.read_write h]

theorem Memory.read_write_other {m : Memory} (h : m.wf) {a c : Nat} (hc : c ≠ a) (b : Byte) :
    Memory.read (Memory.write m a b) c = Memory.read m c := by simp [Memory.read_write h, hc]

end Sys2Proof.Machine
end

