-- ==== Sys2Proof/Laws/State.lean ====
section
/-! SUPPORT. What each named update does to each field, one lemma per field, true by rfl: no later proof unfolds a record update. -/

namespace Sys2Proof.Machine

/-! ### raise -/

@[simp] theorem raise_cfg (s : State) (f : FaultEvent) : (s.raise f).cfg = s.cfg := rfl
@[simp] theorem raise_env (s : State) (f : FaultEvent) : (s.raise f).env = s.env := rfl
@[simp] theorem raise_drive (s : State) (f : FaultEvent) : (s.raise f).drive = s.drive := rfl
@[simp] theorem raise_rx (s : State) (f : FaultEvent) : (s.raise f).rx = s.rx := rfl
@[simp] theorem raise_resendRequest (s : State) (f : FaultEvent) : (s.raise f).resendRequest = s.resendRequest := rfl
@[simp] theorem raise_q (s : State) (f : FaultEvent) : (s.raise f).q = s.q := rfl
@[simp] theorem raise_tx (s : State) (f : FaultEvent) : (s.raise f).tx = s.tx := rfl
@[simp] theorem raise_tr (s : State) (f : FaultEvent) : (s.raise f).tr = s.tr := rfl
@[simp] theorem raise_km (s : State) (f : FaultEvent) : (s.raise f).km = s.km := rfl
@[simp] theorem raise_lastReport (s : State) (f : FaultEvent) : (s.raise f).lastReport = s.lastReport := rfl
@[simp] theorem raise_built (s : State) (f : FaultEvent) : (s.raise f).built = s.built := rfl
@[simp] theorem raise_mode (s : State) (f : FaultEvent) : (s.raise f).mode = s.mode := rfl
@[simp] theorem raise_cmd (s : State) (f : FaultEvent) : (s.raise f).cmd = s.cmd := rfl
@[simp] theorem raise_ledPending (s : State) (f : FaultEvent) : (s.raise f).ledPending = s.ledPending := rfl
@[simp] theorem raise_ledUsb (s : State) (f : FaultEvent) : (s.raise f).ledUsb = s.ledUsb := rfl
@[simp] theorem raise_fg (s : State) (f : FaultEvent) : (s.raise f).fg = s.fg := rfl
@[simp] theorem raise_popped (s : State) (f : FaultEvent) : (s.raise f).popped = s.popped := rfl
@[simp] theorem raise_event (s : State) (f : FaultEvent) : (s.raise f).event = s.event := rfl
@[simp] theorem raise_edgeLatched (s : State) (f : FaultEvent) : (s.raise f).edgeLatched = s.edgeLatched := rfl
@[simp] theorem raise_out_faults (s : State) (f : FaultEvent) : (s.raise f).out.faults = f :: s.out.faults := rfl
@[simp] theorem raise_out_reports (s : State) (f : FaultEvent) : (s.raise f).out.reports = s.out.reports := rfl

/-! ### deliver -/

@[simp] theorem deliver_cfg (s : State) (r : Report) : (s.deliver r).cfg = s.cfg := rfl
@[simp] theorem deliver_env (s : State) (r : Report) : (s.deliver r).env = s.env := rfl
@[simp] theorem deliver_drive (s : State) (r : Report) : (s.deliver r).drive = s.drive := rfl
@[simp] theorem deliver_rx (s : State) (r : Report) : (s.deliver r).rx = s.rx := rfl
@[simp] theorem deliver_resendRequest (s : State) (r : Report) : (s.deliver r).resendRequest = s.resendRequest := rfl
@[simp] theorem deliver_q (s : State) (r : Report) : (s.deliver r).q = s.q := rfl
@[simp] theorem deliver_tx (s : State) (r : Report) : (s.deliver r).tx = s.tx := rfl
@[simp] theorem deliver_tr (s : State) (r : Report) : (s.deliver r).tr = s.tr := rfl
@[simp] theorem deliver_km (s : State) (r : Report) : (s.deliver r).km = s.km := rfl
@[simp] theorem deliver_built (s : State) (r : Report) : (s.deliver r).built = s.built := rfl
@[simp] theorem deliver_mode (s : State) (r : Report) : (s.deliver r).mode = s.mode := rfl
@[simp] theorem deliver_cmd (s : State) (r : Report) : (s.deliver r).cmd = s.cmd := rfl
@[simp] theorem deliver_ledPending (s : State) (r : Report) : (s.deliver r).ledPending = s.ledPending := rfl
@[simp] theorem deliver_ledUsb (s : State) (r : Report) : (s.deliver r).ledUsb = s.ledUsb := rfl
@[simp] theorem deliver_fg (s : State) (r : Report) : (s.deliver r).fg = s.fg := rfl
@[simp] theorem deliver_popped (s : State) (r : Report) : (s.deliver r).popped = s.popped := rfl
@[simp] theorem deliver_event (s : State) (r : Report) : (s.deliver r).event = s.event := rfl
@[simp] theorem deliver_edgeLatched (s : State) (r : Report) : (s.deliver r).edgeLatched = s.edgeLatched := rfl
@[simp] theorem deliver_lastReport (s : State) (r : Report) : (s.deliver r).lastReport = r := rfl
@[simp] theorem deliver_out_reports (s : State) (r : Report) : (s.deliver r).out.reports = r :: s.out.reports := rfl
@[simp] theorem deliver_out_faults (s : State) (r : Report) : (s.deliver r).out.faults = s.out.faults := rfl

/-! ### setResend -/

@[simp] theorem setResend_cfg (s : State) (v : Bool) : (setResend v s).cfg = s.cfg := rfl
@[simp] theorem setResend_env (s : State) (v : Bool) : (setResend v s).env = s.env := rfl
@[simp] theorem setResend_drive (s : State) (v : Bool) : (setResend v s).drive = s.drive := rfl
@[simp] theorem setResend_rx (s : State) (v : Bool) : (setResend v s).rx = s.rx := rfl
@[simp] theorem setResend_q (s : State) (v : Bool) : (setResend v s).q = s.q := rfl
@[simp] theorem setResend_tx (s : State) (v : Bool) : (setResend v s).tx = s.tx := rfl
@[simp] theorem setResend_tr (s : State) (v : Bool) : (setResend v s).tr = s.tr := rfl
@[simp] theorem setResend_km (s : State) (v : Bool) : (setResend v s).km = s.km := rfl
@[simp] theorem setResend_lastReport (s : State) (v : Bool) : (setResend v s).lastReport = s.lastReport := rfl
@[simp] theorem setResend_built (s : State) (v : Bool) : (setResend v s).built = s.built := rfl
@[simp] theorem setResend_mode (s : State) (v : Bool) : (setResend v s).mode = s.mode := rfl
@[simp] theorem setResend_cmd (s : State) (v : Bool) : (setResend v s).cmd = s.cmd := rfl
@[simp] theorem setResend_ledPending (s : State) (v : Bool) : (setResend v s).ledPending = s.ledPending := rfl
@[simp] theorem setResend_ledUsb (s : State) (v : Bool) : (setResend v s).ledUsb = s.ledUsb := rfl
@[simp] theorem setResend_fg (s : State) (v : Bool) : (setResend v s).fg = s.fg := rfl
@[simp] theorem setResend_popped (s : State) (v : Bool) : (setResend v s).popped = s.popped := rfl
@[simp] theorem setResend_event (s : State) (v : Bool) : (setResend v s).event = s.event := rfl
@[simp] theorem setResend_edgeLatched (s : State) (v : Bool) : (setResend v s).edgeLatched = s.edgeLatched := rfl
@[simp] theorem setResend_out (s : State) (v : Bool) : (setResend v s).out = s.out := rfl
@[simp] theorem setResend_resendRequest (s : State) (v : Bool) : (setResend v s).resendRequest = v := rfl

/-! ### acceptBit -/

@[simp] theorem acceptBit_cfg (s : State) (n : BitVec 4) : (acceptBit n s).cfg = s.cfg := rfl
@[simp] theorem acceptBit_env (s : State) (n : BitVec 4) : (acceptBit n s).env = s.env := rfl
@[simp] theorem acceptBit_drive (s : State) (n : BitVec 4) : (acceptBit n s).drive = s.drive := rfl
@[simp] theorem acceptBit_resendRequest (s : State) (n : BitVec 4) : (acceptBit n s).resendRequest = s.resendRequest := rfl
@[simp] theorem acceptBit_q (s : State) (n : BitVec 4) : (acceptBit n s).q = s.q := rfl
@[simp] theorem acceptBit_tx (s : State) (n : BitVec 4) : (acceptBit n s).tx = s.tx := rfl
@[simp] theorem acceptBit_tr (s : State) (n : BitVec 4) : (acceptBit n s).tr = s.tr := rfl
@[simp] theorem acceptBit_km (s : State) (n : BitVec 4) : (acceptBit n s).km = s.km := rfl
@[simp] theorem acceptBit_lastReport (s : State) (n : BitVec 4) : (acceptBit n s).lastReport = s.lastReport := rfl
@[simp] theorem acceptBit_built (s : State) (n : BitVec 4) : (acceptBit n s).built = s.built := rfl
@[simp] theorem acceptBit_mode (s : State) (n : BitVec 4) : (acceptBit n s).mode = s.mode := rfl
@[simp] theorem acceptBit_cmd (s : State) (n : BitVec 4) : (acceptBit n s).cmd = s.cmd := rfl
@[simp] theorem acceptBit_ledPending (s : State) (n : BitVec 4) : (acceptBit n s).ledPending = s.ledPending := rfl
@[simp] theorem acceptBit_ledUsb (s : State) (n : BitVec 4) : (acceptBit n s).ledUsb = s.ledUsb := rfl
@[simp] theorem acceptBit_fg (s : State) (n : BitVec 4) : (acceptBit n s).fg = s.fg := rfl
@[simp] theorem acceptBit_popped (s : State) (n : BitVec 4) : (acceptBit n s).popped = s.popped := rfl
@[simp] theorem acceptBit_event (s : State) (n : BitVec 4) : (acceptBit n s).event = s.event := rfl
@[simp] theorem acceptBit_edgeLatched (s : State) (n : BitVec 4) : (acceptBit n s).edgeLatched = s.edgeLatched := rfl
@[simp] theorem acceptBit_out (s : State) (n : BitVec 4) : (acceptBit n s).out = s.out := rfl
@[simp] theorem acceptBit_rx_bitCount (s : State) (n : BitVec 4) : (acceptBit n s).rx.bitCount = n := rfl
@[simp] theorem acceptBit_rx_data (s : State) (n : BitVec 4) : (acceptBit n s).rx.data = s.rx.data := rfl
@[simp] theorem acceptBit_rx_parity (s : State) (n : BitVec 4) : (acceptBit n s).rx.parity = s.rx.parity := rfl
@[simp] theorem acceptBit_rx_lastBitTime (s : State) (n : BitVec 4) : (acceptBit n s).rx.lastBitTime = s.env.msNow := rfl
@[simp] theorem acceptBit_rx_suppressed (s : State) (n : BitVec 4) : (acceptBit n s).rx.suppressed = s.rx.suppressed := rfl

/-! ### setTxPhase -/

@[simp] theorem setTxPhase_cfg (s : State) (p : TxPhase) : (setTxPhase p s).cfg = s.cfg := rfl
@[simp] theorem setTxPhase_env (s : State) (p : TxPhase) : (setTxPhase p s).env = s.env := rfl
@[simp] theorem setTxPhase_drive (s : State) (p : TxPhase) : (setTxPhase p s).drive = s.drive := rfl
@[simp] theorem setTxPhase_rx (s : State) (p : TxPhase) : (setTxPhase p s).rx = s.rx := rfl
@[simp] theorem setTxPhase_resendRequest (s : State) (p : TxPhase) : (setTxPhase p s).resendRequest = s.resendRequest := rfl
@[simp] theorem setTxPhase_q (s : State) (p : TxPhase) : (setTxPhase p s).q = s.q := rfl
@[simp] theorem setTxPhase_tr (s : State) (p : TxPhase) : (setTxPhase p s).tr = s.tr := rfl
@[simp] theorem setTxPhase_km (s : State) (p : TxPhase) : (setTxPhase p s).km = s.km := rfl
@[simp] theorem setTxPhase_lastReport (s : State) (p : TxPhase) : (setTxPhase p s).lastReport = s.lastReport := rfl
@[simp] theorem setTxPhase_built (s : State) (p : TxPhase) : (setTxPhase p s).built = s.built := rfl
@[simp] theorem setTxPhase_mode (s : State) (p : TxPhase) : (setTxPhase p s).mode = s.mode := rfl
@[simp] theorem setTxPhase_cmd (s : State) (p : TxPhase) : (setTxPhase p s).cmd = s.cmd := rfl
@[simp] theorem setTxPhase_ledPending (s : State) (p : TxPhase) : (setTxPhase p s).ledPending = s.ledPending := rfl
@[simp] theorem setTxPhase_ledUsb (s : State) (p : TxPhase) : (setTxPhase p s).ledUsb = s.ledUsb := rfl
@[simp] theorem setTxPhase_fg (s : State) (p : TxPhase) : (setTxPhase p s).fg = s.fg := rfl
@[simp] theorem setTxPhase_popped (s : State) (p : TxPhase) : (setTxPhase p s).popped = s.popped := rfl
@[simp] theorem setTxPhase_event (s : State) (p : TxPhase) : (setTxPhase p s).event = s.event := rfl
@[simp] theorem setTxPhase_edgeLatched (s : State) (p : TxPhase) : (setTxPhase p s).edgeLatched = s.edgeLatched := rfl
@[simp] theorem setTxPhase_out (s : State) (p : TxPhase) : (setTxPhase p s).out = s.out := rfl
@[simp] theorem setTxPhase_tx_phase (s : State) (p : TxPhase) : (setTxPhase p s).tx.phase = p := rfl
@[simp] theorem setTxPhase_tx_byte (s : State) (p : TxPhase) : (setTxPhase p s).tx.byte = s.tx.byte := rfl
@[simp] theorem setTxPhase_tx_index (s : State) (p : TxPhase) : (setTxPhase p s).tx.index = s.tx.index := rfl
@[simp] theorem setTxPhase_tx_t0 (s : State) (p : TxPhase) : (setTxPhase p s).tx.t0 = s.tx.t0 := rfl
@[simp] theorem setTxPhase_tx_result (s : State) (p : TxPhase) : (setTxPhase p s).tx.result = s.tx.result := rfl

/-! ### releaseBus -/

@[simp] theorem releaseBus_cfg (s : State) : (releaseBus s).cfg = s.cfg := rfl
@[simp] theorem releaseBus_env (s : State) : (releaseBus s).env = s.env := rfl
@[simp] theorem releaseBus_resendRequest (s : State) : (releaseBus s).resendRequest = s.resendRequest := rfl
@[simp] theorem releaseBus_q (s : State) : (releaseBus s).q = s.q := rfl
@[simp] theorem releaseBus_tx (s : State) : (releaseBus s).tx = s.tx := rfl
@[simp] theorem releaseBus_tr (s : State) : (releaseBus s).tr = s.tr := rfl
@[simp] theorem releaseBus_km (s : State) : (releaseBus s).km = s.km := rfl
@[simp] theorem releaseBus_lastReport (s : State) : (releaseBus s).lastReport = s.lastReport := rfl
@[simp] theorem releaseBus_built (s : State) : (releaseBus s).built = s.built := rfl
@[simp] theorem releaseBus_mode (s : State) : (releaseBus s).mode = s.mode := rfl
@[simp] theorem releaseBus_cmd (s : State) : (releaseBus s).cmd = s.cmd := rfl
@[simp] theorem releaseBus_ledPending (s : State) : (releaseBus s).ledPending = s.ledPending := rfl
@[simp] theorem releaseBus_ledUsb (s : State) : (releaseBus s).ledUsb = s.ledUsb := rfl
@[simp] theorem releaseBus_fg (s : State) : (releaseBus s).fg = s.fg := rfl
@[simp] theorem releaseBus_popped (s : State) : (releaseBus s).popped = s.popped := rfl
@[simp] theorem releaseBus_event (s : State) : (releaseBus s).event = s.event := rfl
@[simp] theorem releaseBus_edgeLatched (s : State) : (releaseBus s).edgeLatched = s.edgeLatched := rfl
@[simp] theorem releaseBus_out (s : State) : (releaseBus s).out = s.out := rfl
@[simp] theorem releaseBus_drive_clkLow (s : State) : (releaseBus s).drive.clkLow = false := rfl
@[simp] theorem releaseBus_drive_dataLow (s : State) : (releaseBus s).drive.dataLow = false := rfl
@[simp] theorem releaseBus_rx_bitCount (s : State) : (releaseBus s).rx.bitCount = s.rx.bitCount := rfl
@[simp] theorem releaseBus_rx_data (s : State) : (releaseBus s).rx.data = s.rx.data := rfl
@[simp] theorem releaseBus_rx_parity (s : State) : (releaseBus s).rx.parity = s.rx.parity := rfl
@[simp] theorem releaseBus_rx_lastBitTime (s : State) : (releaseBus s).rx.lastBitTime = s.rx.lastBitTime := rfl
@[simp] theorem releaseBus_rx_suppressed (s : State) : (releaseBus s).rx.suppressed = false := rfl

/-! ### txFinish -/

@[simp] theorem txFinish_cfg (s : State) (v : Bool) : (txFinish v s).cfg = s.cfg := rfl
@[simp] theorem txFinish_env (s : State) (v : Bool) : (txFinish v s).env = s.env := rfl
@[simp] theorem txFinish_resendRequest (s : State) (v : Bool) : (txFinish v s).resendRequest = s.resendRequest := rfl
@[simp] theorem txFinish_q (s : State) (v : Bool) : (txFinish v s).q = s.q := rfl
@[simp] theorem txFinish_tr (s : State) (v : Bool) : (txFinish v s).tr = s.tr := rfl
@[simp] theorem txFinish_km (s : State) (v : Bool) : (txFinish v s).km = s.km := rfl
@[simp] theorem txFinish_lastReport (s : State) (v : Bool) : (txFinish v s).lastReport = s.lastReport := rfl
@[simp] theorem txFinish_built (s : State) (v : Bool) : (txFinish v s).built = s.built := rfl
@[simp] theorem txFinish_mode (s : State) (v : Bool) : (txFinish v s).mode = s.mode := rfl
@[simp] theorem txFinish_cmd (s : State) (v : Bool) : (txFinish v s).cmd = s.cmd := rfl
@[simp] theorem txFinish_ledPending (s : State) (v : Bool) : (txFinish v s).ledPending = s.ledPending := rfl
@[simp] theorem txFinish_ledUsb (s : State) (v : Bool) : (txFinish v s).ledUsb = s.ledUsb := rfl
@[simp] theorem txFinish_fg (s : State) (v : Bool) : (txFinish v s).fg = s.fg := rfl
@[simp] theorem txFinish_popped (s : State) (v : Bool) : (txFinish v s).popped = s.popped := rfl
@[simp] theorem txFinish_event (s : State) (v : Bool) : (txFinish v s).event = s.event := rfl
@[simp] theorem txFinish_out (s : State) (v : Bool) : (txFinish v s).out = s.out := rfl
@[simp] theorem txFinish_edgeLatched (s : State) (v : Bool) : (txFinish v s).edgeLatched = s.rx.suppressed := rfl
@[simp] theorem txFinish_drive_clkLow (s : State) (v : Bool) : (txFinish v s).drive.clkLow = false := rfl
@[simp] theorem txFinish_drive_dataLow (s : State) (v : Bool) : (txFinish v s).drive.dataLow = false := rfl
@[simp] theorem txFinish_rx_bitCount (s : State) (v : Bool) : (txFinish v s).rx.bitCount = s.rx.bitCount := rfl
@[simp] theorem txFinish_rx_data (s : State) (v : Bool) : (txFinish v s).rx.data = s.rx.data := rfl
@[simp] theorem txFinish_rx_parity (s : State) (v : Bool) : (txFinish v s).rx.parity = s.rx.parity := rfl
@[simp] theorem txFinish_rx_lastBitTime (s : State) (v : Bool) : (txFinish v s).rx.lastBitTime = s.rx.lastBitTime := rfl
@[simp] theorem txFinish_rx_suppressed (s : State) (v : Bool) : (txFinish v s).rx.suppressed = false := rfl
@[simp] theorem txFinish_tx_phase (s : State) (v : Bool) : (txFinish v s).tx.phase = .done := rfl
@[simp] theorem txFinish_tx_byte (s : State) (v : Bool) : (txFinish v s).tx.byte = s.tx.byte := rfl
@[simp] theorem txFinish_tx_index (s : State) (v : Bool) : (txFinish v s).tx.index = s.tx.index := rfl
@[simp] theorem txFinish_tx_t0 (s : State) (v : Bool) : (txFinish v s).tx.t0 = s.tx.t0 := rfl
@[simp] theorem txFinish_tx_result (s : State) (v : Bool) : (txFinish v s).tx.result = v := rfl

/-! ### txFail -/

@[simp] theorem txFail_cfg (s : State) (f : TxFault) : (txFail f s).cfg = s.cfg := rfl
@[simp] theorem txFail_env (s : State) (f : TxFault) : (txFail f s).env = s.env := rfl
@[simp] theorem txFail_resendRequest (s : State) (f : TxFault) : (txFail f s).resendRequest = s.resendRequest := rfl
@[simp] theorem txFail_q (s : State) (f : TxFault) : (txFail f s).q = s.q := rfl
@[simp] theorem txFail_tr (s : State) (f : TxFault) : (txFail f s).tr = s.tr := rfl
@[simp] theorem txFail_km (s : State) (f : TxFault) : (txFail f s).km = s.km := rfl
@[simp] theorem txFail_lastReport (s : State) (f : TxFault) : (txFail f s).lastReport = s.lastReport := rfl
@[simp] theorem txFail_built (s : State) (f : TxFault) : (txFail f s).built = s.built := rfl
@[simp] theorem txFail_mode (s : State) (f : TxFault) : (txFail f s).mode = s.mode := rfl
@[simp] theorem txFail_cmd (s : State) (f : TxFault) : (txFail f s).cmd = s.cmd := rfl
@[simp] theorem txFail_ledPending (s : State) (f : TxFault) : (txFail f s).ledPending = s.ledPending := rfl
@[simp] theorem txFail_ledUsb (s : State) (f : TxFault) : (txFail f s).ledUsb = s.ledUsb := rfl
@[simp] theorem txFail_fg (s : State) (f : TxFault) : (txFail f s).fg = s.fg := rfl
@[simp] theorem txFail_popped (s : State) (f : TxFault) : (txFail f s).popped = s.popped := rfl
@[simp] theorem txFail_event (s : State) (f : TxFault) : (txFail f s).event = s.event := rfl
@[simp] theorem txFail_edgeLatched (s : State) (f : TxFault) : (txFail f s).edgeLatched = s.rx.suppressed := rfl
@[simp] theorem txFail_drive_clkLow (s : State) (f : TxFault) : (txFail f s).drive.clkLow = false := rfl
@[simp] theorem txFail_drive_dataLow (s : State) (f : TxFault) : (txFail f s).drive.dataLow = false := rfl
@[simp] theorem txFail_rx_bitCount (s : State) (f : TxFault) : (txFail f s).rx.bitCount = s.rx.bitCount := rfl
@[simp] theorem txFail_rx_data (s : State) (f : TxFault) : (txFail f s).rx.data = s.rx.data := rfl
@[simp] theorem txFail_rx_parity (s : State) (f : TxFault) : (txFail f s).rx.parity = s.rx.parity := rfl
@[simp] theorem txFail_rx_lastBitTime (s : State) (f : TxFault) : (txFail f s).rx.lastBitTime = s.rx.lastBitTime := rfl
@[simp] theorem txFail_rx_suppressed (s : State) (f : TxFault) : (txFail f s).rx.suppressed = false := rfl
@[simp] theorem txFail_tx_phase (s : State) (f : TxFault) : (txFail f s).tx.phase = .done := rfl
@[simp] theorem txFail_tx_byte (s : State) (f : TxFault) : (txFail f s).tx.byte = s.tx.byte := rfl
@[simp] theorem txFail_tx_index (s : State) (f : TxFault) : (txFail f s).tx.index = s.tx.index := rfl
@[simp] theorem txFail_tx_t0 (s : State) (f : TxFault) : (txFail f s).tx.t0 = s.tx.t0 := rfl
@[simp] theorem txFail_tx_result (s : State) (f : TxFault) : (txFail f s).tx.result = false := rfl
@[simp] theorem txFail_out_faults (s : State) (f : TxFault) : (txFail f s).out.faults = .txFault f :: s.out.faults := rfl
@[simp] theorem txFail_out_reports (s : State) (f : TxFault) : (txFail f s).out.reports = s.out.reports := rfl

/-! ### replyAck -/

@[simp] theorem replyAck_cfg (s : State) : (replyAck s).cfg = s.cfg := rfl
@[simp] theorem replyAck_env (s : State) : (replyAck s).env = s.env := rfl
@[simp] theorem replyAck_drive (s : State) : (replyAck s).drive = s.drive := rfl
@[simp] theorem replyAck_rx (s : State) : (replyAck s).rx = s.rx := rfl
@[simp] theorem replyAck_resendRequest (s : State) : (replyAck s).resendRequest = s.resendRequest := rfl
@[simp] theorem replyAck_q (s : State) : (replyAck s).q = s.q := rfl
@[simp] theorem replyAck_tx (s : State) : (replyAck s).tx = s.tx := rfl
@[simp] theorem replyAck_tr (s : State) : (replyAck s).tr = s.tr := rfl
@[simp] theorem replyAck_km (s : State) : (replyAck s).km = s.km := rfl
@[simp] theorem replyAck_lastReport (s : State) : (replyAck s).lastReport = s.lastReport := rfl
@[simp] theorem replyAck_built (s : State) : (replyAck s).built = s.built := rfl
@[simp] theorem replyAck_mode (s : State) : (replyAck s).mode = s.mode := rfl
@[simp] theorem replyAck_ledPending (s : State) : (replyAck s).ledPending = s.ledPending := rfl
@[simp] theorem replyAck_ledUsb (s : State) : (replyAck s).ledUsb = s.ledUsb := rfl
@[simp] theorem replyAck_fg (s : State) : (replyAck s).fg = s.fg := rfl
@[simp] theorem replyAck_popped (s : State) : (replyAck s).popped = s.popped := rfl
@[simp] theorem replyAck_event (s : State) : (replyAck s).event = s.event := rfl
@[simp] theorem replyAck_edgeLatched (s : State) : (replyAck s).edgeLatched = s.edgeLatched := rfl
@[simp] theorem replyAck_out (s : State) : (replyAck s).out = s.out := rfl
@[simp] theorem replyAck_cmd_phase (s : State) : (replyAck s).cmd.phase = .idle := rfl
@[simp] theorem replyAck_cmd_byte (s : State) : (replyAck s).cmd.byte = s.cmd.byte := rfl
@[simp] theorem replyAck_cmd_attempts (s : State) : (replyAck s).cmd.attempts = s.cmd.attempts := rfl
@[simp] theorem replyAck_cmd_t0 (s : State) : (replyAck s).cmd.t0 = s.cmd.t0 := rfl
@[simp] theorem replyAck_cmd_result (s : State) : (replyAck s).cmd.result = true := rfl
@[simp] theorem replyAck_cmd_writeDue (s : State) : (replyAck s).cmd.writeDue = s.cmd.writeDue := rfl

/-! ### translateRelease -/

@[simp] theorem translateRelease_cfg (s : State) : (translateRelease s).cfg = s.cfg := rfl
@[simp] theorem translateRelease_env (s : State) : (translateRelease s).env = s.env := rfl
@[simp] theorem translateRelease_drive (s : State) : (translateRelease s).drive = s.drive := rfl
@[simp] theorem translateRelease_rx (s : State) : (translateRelease s).rx = s.rx := rfl
@[simp] theorem translateRelease_resendRequest (s : State) : (translateRelease s).resendRequest = s.resendRequest := rfl
@[simp] theorem translateRelease_q (s : State) : (translateRelease s).q = s.q := rfl
@[simp] theorem translateRelease_tx (s : State) : (translateRelease s).tx = s.tx := rfl
@[simp] theorem translateRelease_km (s : State) : (translateRelease s).km = s.km := rfl
@[simp] theorem translateRelease_lastReport (s : State) : (translateRelease s).lastReport = s.lastReport := rfl
@[simp] theorem translateRelease_built (s : State) : (translateRelease s).built = s.built := rfl
@[simp] theorem translateRelease_mode (s : State) : (translateRelease s).mode = s.mode := rfl
@[simp] theorem translateRelease_cmd (s : State) : (translateRelease s).cmd = s.cmd := rfl
@[simp] theorem translateRelease_ledPending (s : State) : (translateRelease s).ledPending = s.ledPending := rfl
@[simp] theorem translateRelease_ledUsb (s : State) : (translateRelease s).ledUsb = s.ledUsb := rfl
@[simp] theorem translateRelease_fg (s : State) : (translateRelease s).fg = s.fg := rfl
@[simp] theorem translateRelease_popped (s : State) : (translateRelease s).popped = s.popped := rfl
@[simp] theorem translateRelease_edgeLatched (s : State) : (translateRelease s).edgeLatched = s.edgeLatched := rfl
@[simp] theorem translateRelease_out (s : State) : (translateRelease s).out = s.out := rfl
@[simp] theorem translateRelease_tr_release (s : State) : (translateRelease s).tr.release = true := rfl
@[simp] theorem translateRelease_tr_extended (s : State) : (translateRelease s).tr.extended = s.tr.extended := rfl
@[simp] theorem translateRelease_tr_special (s : State) : (translateRelease s).tr.special = s.tr.special := rfl
@[simp] theorem translateRelease_event (s : State) : (translateRelease s).event = none := rfl

/-! ### translateKey -/

@[simp] theorem translateKey_cfg (s : State) (b : Byte) : (translateKey b s).cfg = s.cfg := rfl
@[simp] theorem translateKey_env (s : State) (b : Byte) : (translateKey b s).env = s.env := rfl
@[simp] theorem translateKey_drive (s : State) (b : Byte) : (translateKey b s).drive = s.drive := rfl
@[simp] theorem translateKey_rx (s : State) (b : Byte) : (translateKey b s).rx = s.rx := rfl
@[simp] theorem translateKey_resendRequest (s : State) (b : Byte) : (translateKey b s).resendRequest = s.resendRequest := rfl
@[simp] theorem translateKey_q (s : State) (b : Byte) : (translateKey b s).q = s.q := rfl
@[simp] theorem translateKey_tx (s : State) (b : Byte) : (translateKey b s).tx = s.tx := rfl
@[simp] theorem translateKey_km (s : State) (b : Byte) : (translateKey b s).km = s.km := rfl
@[simp] theorem translateKey_lastReport (s : State) (b : Byte) : (translateKey b s).lastReport = s.lastReport := rfl
@[simp] theorem translateKey_built (s : State) (b : Byte) : (translateKey b s).built = s.built := rfl
@[simp] theorem translateKey_mode (s : State) (b : Byte) : (translateKey b s).mode = s.mode := rfl
@[simp] theorem translateKey_cmd (s : State) (b : Byte) : (translateKey b s).cmd = s.cmd := rfl
@[simp] theorem translateKey_ledPending (s : State) (b : Byte) : (translateKey b s).ledPending = s.ledPending := rfl
@[simp] theorem translateKey_ledUsb (s : State) (b : Byte) : (translateKey b s).ledUsb = s.ledUsb := rfl
@[simp] theorem translateKey_fg (s : State) (b : Byte) : (translateKey b s).fg = s.fg := rfl
@[simp] theorem translateKey_popped (s : State) (b : Byte) : (translateKey b s).popped = s.popped := rfl
@[simp] theorem translateKey_edgeLatched (s : State) (b : Byte) : (translateKey b s).edgeLatched = s.edgeLatched := rfl
@[simp] theorem translateKey_out (s : State) (b : Byte) : (translateKey b s).out = s.out := rfl
@[simp] theorem translateKey_tr (s : State) (b : Byte) : (translateKey b s).tr = Translator.neutral := rfl
@[simp] theorem translateKey_event (s : State) (b : Byte) : (translateKey b s).event = if keyIdOf s b = 0x00 then none else some (keyIdOf s b, s.tr.release) := rfl

/-! ### latchLed -/

@[simp] theorem latchLed_cfg (s : State) (u : Byte) : (latchLed u s).cfg = s.cfg := rfl
@[simp] theorem latchLed_env (s : State) (u : Byte) : (latchLed u s).env = s.env := rfl
@[simp] theorem latchLed_drive (s : State) (u : Byte) : (latchLed u s).drive = s.drive := rfl
@[simp] theorem latchLed_rx (s : State) (u : Byte) : (latchLed u s).rx = s.rx := rfl
@[simp] theorem latchLed_resendRequest (s : State) (u : Byte) : (latchLed u s).resendRequest = s.resendRequest := rfl
@[simp] theorem latchLed_q (s : State) (u : Byte) : (latchLed u s).q = s.q := rfl
@[simp] theorem latchLed_tx (s : State) (u : Byte) : (latchLed u s).tx = s.tx := rfl
@[simp] theorem latchLed_tr (s : State) (u : Byte) : (latchLed u s).tr = s.tr := rfl
@[simp] theorem latchLed_km (s : State) (u : Byte) : (latchLed u s).km = s.km := rfl
@[simp] theorem latchLed_lastReport (s : State) (u : Byte) : (latchLed u s).lastReport = s.lastReport := rfl
@[simp] theorem latchLed_built (s : State) (u : Byte) : (latchLed u s).built = s.built := rfl
@[simp] theorem latchLed_mode (s : State) (u : Byte) : (latchLed u s).mode = s.mode := rfl
@[simp] theorem latchLed_cmd (s : State) (u : Byte) : (latchLed u s).cmd = s.cmd := rfl
@[simp] theorem latchLed_fg (s : State) (u : Byte) : (latchLed u s).fg = s.fg := rfl
@[simp] theorem latchLed_popped (s : State) (u : Byte) : (latchLed u s).popped = s.popped := rfl
@[simp] theorem latchLed_event (s : State) (u : Byte) : (latchLed u s).event = s.event := rfl
@[simp] theorem latchLed_edgeLatched (s : State) (u : Byte) : (latchLed u s).edgeLatched = s.edgeLatched := rfl
@[simp] theorem latchLed_out (s : State) (u : Byte) : (latchLed u s).out = s.out := rfl
@[simp] theorem latchLed_ledUsb (s : State) (u : Byte) : (latchLed u s).ledUsb = u := rfl
@[simp] theorem latchLed_ledPending (s : State) (u : Byte) : (latchLed u s).ledPending = true := rfl

/-! ### setDev -/

@[simp] theorem setDev_cfg (s : State) (c d : Bool) : (setDev c d s).cfg = s.cfg := rfl
@[simp] theorem setDev_drive (s : State) (c d : Bool) : (setDev c d s).drive = s.drive := rfl
@[simp] theorem setDev_rx (s : State) (c d : Bool) : (setDev c d s).rx = s.rx := rfl
@[simp] theorem setDev_resendRequest (s : State) (c d : Bool) : (setDev c d s).resendRequest = s.resendRequest := rfl
@[simp] theorem setDev_q (s : State) (c d : Bool) : (setDev c d s).q = s.q := rfl
@[simp] theorem setDev_tx (s : State) (c d : Bool) : (setDev c d s).tx = s.tx := rfl
@[simp] theorem setDev_tr (s : State) (c d : Bool) : (setDev c d s).tr = s.tr := rfl
@[simp] theorem setDev_km (s : State) (c d : Bool) : (setDev c d s).km = s.km := rfl
@[simp] theorem setDev_lastReport (s : State) (c d : Bool) : (setDev c d s).lastReport = s.lastReport := rfl
@[simp] theorem setDev_built (s : State) (c d : Bool) : (setDev c d s).built = s.built := rfl
@[simp] theorem setDev_mode (s : State) (c d : Bool) : (setDev c d s).mode = s.mode := rfl
@[simp] theorem setDev_cmd (s : State) (c d : Bool) : (setDev c d s).cmd = s.cmd := rfl
@[simp] theorem setDev_ledPending (s : State) (c d : Bool) : (setDev c d s).ledPending = s.ledPending := rfl
@[simp] theorem setDev_ledUsb (s : State) (c d : Bool) : (setDev c d s).ledUsb = s.ledUsb := rfl
@[simp] theorem setDev_fg (s : State) (c d : Bool) : (setDev c d s).fg = s.fg := rfl
@[simp] theorem setDev_popped (s : State) (c d : Bool) : (setDev c d s).popped = s.popped := rfl
@[simp] theorem setDev_event (s : State) (c d : Bool) : (setDev c d s).event = s.event := rfl
@[simp] theorem setDev_edgeLatched (s : State) (c d : Bool) : (setDev c d s).edgeLatched = s.edgeLatched := rfl
@[simp] theorem setDev_out (s : State) (c d : Bool) : (setDev c d s).out = s.out := rfl
@[simp] theorem setDev_env_devClkLow (s : State) (c d : Bool) : (setDev c d s).env.devClkLow = c := rfl
@[simp] theorem setDev_env_devDataLow (s : State) (c d : Bool) : (setDev c d s).env.devDataLow = d := rfl
@[simp] theorem setDev_env_msNow (s : State) (c d : Bool) : (setDev c d s).env.msNow = s.env.msNow := rfl
@[simp] theorem setDev_env_inputs (s : State) (c d : Bool) : (setDev c d s).env.inputs = s.env.inputs := rfl

/-! ### advance -/

@[simp] theorem advance_cfg (s : State) (n : Nat) : (advance n s).cfg = s.cfg := rfl
@[simp] theorem advance_drive (s : State) (n : Nat) : (advance n s).drive = s.drive := rfl
@[simp] theorem advance_rx (s : State) (n : Nat) : (advance n s).rx = s.rx := rfl
@[simp] theorem advance_resendRequest (s : State) (n : Nat) : (advance n s).resendRequest = s.resendRequest := rfl
@[simp] theorem advance_q (s : State) (n : Nat) : (advance n s).q = s.q := rfl
@[simp] theorem advance_tx (s : State) (n : Nat) : (advance n s).tx = s.tx := rfl
@[simp] theorem advance_tr (s : State) (n : Nat) : (advance n s).tr = s.tr := rfl
@[simp] theorem advance_km (s : State) (n : Nat) : (advance n s).km = s.km := rfl
@[simp] theorem advance_lastReport (s : State) (n : Nat) : (advance n s).lastReport = s.lastReport := rfl
@[simp] theorem advance_built (s : State) (n : Nat) : (advance n s).built = s.built := rfl
@[simp] theorem advance_mode (s : State) (n : Nat) : (advance n s).mode = s.mode := rfl
@[simp] theorem advance_cmd (s : State) (n : Nat) : (advance n s).cmd = s.cmd := rfl
@[simp] theorem advance_ledPending (s : State) (n : Nat) : (advance n s).ledPending = s.ledPending := rfl
@[simp] theorem advance_ledUsb (s : State) (n : Nat) : (advance n s).ledUsb = s.ledUsb := rfl
@[simp] theorem advance_fg (s : State) (n : Nat) : (advance n s).fg = s.fg := rfl
@[simp] theorem advance_popped (s : State) (n : Nat) : (advance n s).popped = s.popped := rfl
@[simp] theorem advance_event (s : State) (n : Nat) : (advance n s).event = s.event := rfl
@[simp] theorem advance_edgeLatched (s : State) (n : Nat) : (advance n s).edgeLatched = s.edgeLatched := rfl
@[simp] theorem advance_out (s : State) (n : Nat) : (advance n s).out = s.out := rfl
@[simp] theorem advance_env_devClkLow (s : State) (n : Nat) : (advance n s).env.devClkLow = s.env.devClkLow := rfl
@[simp] theorem advance_env_devDataLow (s : State) (n : Nat) : (advance n s).env.devDataLow = s.env.devDataLow := rfl
@[simp] theorem advance_env_msNow (s : State) (n : Nat) : (advance n s).env.msNow = (s.env.msNow + n) % 2 ^ s.cfg.timeW := rfl
@[simp] theorem advance_env_inputs (s : State) (n : Nat) : (advance n s).env.inputs = s.env.inputs := rfl

/-! ### withInputs -/

@[simp] theorem withInputs_cfg (s : State) (xs : List Stimulus) : (s.withInputs xs).cfg = s.cfg := rfl
@[simp] theorem withInputs_drive (s : State) (xs : List Stimulus) : (s.withInputs xs).drive = s.drive := rfl
@[simp] theorem withInputs_rx (s : State) (xs : List Stimulus) : (s.withInputs xs).rx = s.rx := rfl
@[simp] theorem withInputs_resendRequest (s : State) (xs : List Stimulus) : (s.withInputs xs).resendRequest = s.resendRequest := rfl
@[simp] theorem withInputs_q (s : State) (xs : List Stimulus) : (s.withInputs xs).q = s.q := rfl
@[simp] theorem withInputs_tx (s : State) (xs : List Stimulus) : (s.withInputs xs).tx = s.tx := rfl
@[simp] theorem withInputs_tr (s : State) (xs : List Stimulus) : (s.withInputs xs).tr = s.tr := rfl
@[simp] theorem withInputs_km (s : State) (xs : List Stimulus) : (s.withInputs xs).km = s.km := rfl
@[simp] theorem withInputs_lastReport (s : State) (xs : List Stimulus) : (s.withInputs xs).lastReport = s.lastReport := rfl
@[simp] theorem withInputs_built (s : State) (xs : List Stimulus) : (s.withInputs xs).built = s.built := rfl
@[simp] theorem withInputs_mode (s : State) (xs : List Stimulus) : (s.withInputs xs).mode = s.mode := rfl
@[simp] theorem withInputs_cmd (s : State) (xs : List Stimulus) : (s.withInputs xs).cmd = s.cmd := rfl
@[simp] theorem withInputs_ledPending (s : State) (xs : List Stimulus) : (s.withInputs xs).ledPending = s.ledPending := rfl
@[simp] theorem withInputs_ledUsb (s : State) (xs : List Stimulus) : (s.withInputs xs).ledUsb = s.ledUsb := rfl
@[simp] theorem withInputs_fg (s : State) (xs : List Stimulus) : (s.withInputs xs).fg = s.fg := rfl
@[simp] theorem withInputs_popped (s : State) (xs : List Stimulus) : (s.withInputs xs).popped = s.popped := rfl
@[simp] theorem withInputs_event (s : State) (xs : List Stimulus) : (s.withInputs xs).event = s.event := rfl
@[simp] theorem withInputs_edgeLatched (s : State) (xs : List Stimulus) : (s.withInputs xs).edgeLatched = s.edgeLatched := rfl
@[simp] theorem withInputs_out (s : State) (xs : List Stimulus) : (s.withInputs xs).out = s.out := rfl
@[simp] theorem withInputs_env_devClkLow (s : State) (xs : List Stimulus) : (s.withInputs xs).env.devClkLow = s.env.devClkLow := rfl
@[simp] theorem withInputs_env_devDataLow (s : State) (xs : List Stimulus) : (s.withInputs xs).env.devDataLow = s.env.devDataLow := rfl
@[simp] theorem withInputs_env_msNow (s : State) (xs : List Stimulus) : (s.withInputs xs).env.msNow = s.env.msNow := rfl
@[simp] theorem withInputs_env_inputs (s : State) (xs : List Stimulus) : (s.withInputs xs).env.inputs = xs := rfl

end Sys2Proof.Machine
end

