-- ==== Sys2Proof/Laws/Ops.lean ====
section
/-! SUPPORT. The shared operations that branch: what each leaves alone, one lemma per field, and one lemma per operation that says once
everything it can do. -/

namespace Sys2Proof.Machine

/-! ### queuePush: what it leaves alone -/

@[simp] theorem queuePush_cfg (s : State) (b : Byte) : (queuePush b s).cfg = s.cfg := by unfold queuePush; split <;> rfl
@[simp] theorem queuePush_env (s : State) (b : Byte) : (queuePush b s).env = s.env := by unfold queuePush; split <;> rfl
@[simp] theorem queuePush_drive (s : State) (b : Byte) : (queuePush b s).drive = s.drive := by unfold queuePush; split <;> rfl
@[simp] theorem queuePush_rx (s : State) (b : Byte) : (queuePush b s).rx = s.rx := by unfold queuePush; split <;> rfl
@[simp] theorem queuePush_resendRequest (s : State) (b : Byte) : (queuePush b s).resendRequest = s.resendRequest := by unfold queuePush; split <;> rfl
@[simp] theorem queuePush_tx (s : State) (b : Byte) : (queuePush b s).tx = s.tx := by unfold queuePush; split <;> rfl
@[simp] theorem queuePush_tr (s : State) (b : Byte) : (queuePush b s).tr = s.tr := by unfold queuePush; split <;> rfl
@[simp] theorem queuePush_km (s : State) (b : Byte) : (queuePush b s).km = s.km := by unfold queuePush; split <;> rfl
@[simp] theorem queuePush_lastReport (s : State) (b : Byte) : (queuePush b s).lastReport = s.lastReport := by unfold queuePush; split <;> rfl
@[simp] theorem queuePush_built (s : State) (b : Byte) : (queuePush b s).built = s.built := by unfold queuePush; split <;> rfl
@[simp] theorem queuePush_mode (s : State) (b : Byte) : (queuePush b s).mode = s.mode := by unfold queuePush; split <;> rfl
@[simp] theorem queuePush_cmd (s : State) (b : Byte) : (queuePush b s).cmd = s.cmd := by unfold queuePush; split <;> rfl
@[simp] theorem queuePush_ledPending (s : State) (b : Byte) : (queuePush b s).ledPending = s.ledPending := by unfold queuePush; split <;> rfl
@[simp] theorem queuePush_ledUsb (s : State) (b : Byte) : (queuePush b s).ledUsb = s.ledUsb := by unfold queuePush; split <;> rfl
@[simp] theorem queuePush_fg (s : State) (b : Byte) : (queuePush b s).fg = s.fg := by unfold queuePush; split <;> rfl
@[simp] theorem queuePush_popped (s : State) (b : Byte) : (queuePush b s).popped = s.popped := by unfold queuePush; split <;> rfl
@[simp] theorem queuePush_event (s : State) (b : Byte) : (queuePush b s).event = s.event := by unfold queuePush; split <;> rfl
@[simp] theorem queuePush_edgeLatched (s : State) (b : Byte) : (queuePush b s).edgeLatched = s.edgeLatched := by unfold queuePush; split <;> rfl
@[simp] theorem queuePush_q_rd (s : State) (b : Byte) : (queuePush b s).q.rd = s.q.rd := by unfold queuePush; split <;> rfl
@[simp] theorem queuePush_out_reports (s : State) (b : Byte) : (queuePush b s).out.reports = s.out.reports := by unfold queuePush; split <;> rfl

/-! ### queueDrop: what it leaves alone -/

@[simp] theorem queueDrop_cfg (s : State) : (queueDrop s).cfg = s.cfg := by unfold queueDrop; split <;> rfl
@[simp] theorem queueDrop_env (s : State) : (queueDrop s).env = s.env := by unfold queueDrop; split <;> rfl
@[simp] theorem queueDrop_drive (s : State) : (queueDrop s).drive = s.drive := by unfold queueDrop; split <;> rfl
@[simp] theorem queueDrop_rx (s : State) : (queueDrop s).rx = s.rx := by unfold queueDrop; split <;> rfl
@[simp] theorem queueDrop_resendRequest (s : State) : (queueDrop s).resendRequest = s.resendRequest := by unfold queueDrop; split <;> rfl
@[simp] theorem queueDrop_tx (s : State) : (queueDrop s).tx = s.tx := by unfold queueDrop; split <;> rfl
@[simp] theorem queueDrop_tr (s : State) : (queueDrop s).tr = s.tr := by unfold queueDrop; split <;> rfl
@[simp] theorem queueDrop_km (s : State) : (queueDrop s).km = s.km := by unfold queueDrop; split <;> rfl
@[simp] theorem queueDrop_lastReport (s : State) : (queueDrop s).lastReport = s.lastReport := by unfold queueDrop; split <;> rfl
@[simp] theorem queueDrop_built (s : State) : (queueDrop s).built = s.built := by unfold queueDrop; split <;> rfl
@[simp] theorem queueDrop_mode (s : State) : (queueDrop s).mode = s.mode := by unfold queueDrop; split <;> rfl
@[simp] theorem queueDrop_cmd (s : State) : (queueDrop s).cmd = s.cmd := by unfold queueDrop; split <;> rfl
@[simp] theorem queueDrop_ledPending (s : State) : (queueDrop s).ledPending = s.ledPending := by unfold queueDrop; split <;> rfl
@[simp] theorem queueDrop_ledUsb (s : State) : (queueDrop s).ledUsb = s.ledUsb := by unfold queueDrop; split <;> rfl
@[simp] theorem queueDrop_fg (s : State) : (queueDrop s).fg = s.fg := by unfold queueDrop; split <;> rfl
@[simp] theorem queueDrop_popped (s : State) : (queueDrop s).popped = s.popped := by unfold queueDrop; split <;> rfl
@[simp] theorem queueDrop_event (s : State) : (queueDrop s).event = s.event := by unfold queueDrop; split <;> rfl
@[simp] theorem queueDrop_edgeLatched (s : State) : (queueDrop s).edgeLatched = s.edgeLatched := by unfold queueDrop; split <;> rfl
@[simp] theorem queueDrop_out (s : State) : (queueDrop s).out = s.out := by unfold queueDrop; split <;> rfl
@[simp] theorem queueDrop_q_buf (s : State) : (queueDrop s).q.buf = s.q.buf := by unfold queueDrop; split <;> rfl
@[simp] theorem queueDrop_q_wr (s : State) : (queueDrop s).q.wr = s.q.wr := by unfold queueDrop; split <;> rfl

/-! ### rxStale: what it leaves alone -/

@[simp] theorem rxStale_cfg (s : State) : (rxStale s).cfg = s.cfg := by unfold rxStale; split <;> rfl
@[simp] theorem rxStale_env (s : State) : (rxStale s).env = s.env := by unfold rxStale; split <;> rfl
@[simp] theorem rxStale_drive (s : State) : (rxStale s).drive = s.drive := by unfold rxStale; split <;> rfl
@[simp] theorem rxStale_resendRequest (s : State) : (rxStale s).resendRequest = s.resendRequest := by unfold rxStale; split <;> rfl
@[simp] theorem rxStale_q (s : State) : (rxStale s).q = s.q := by unfold rxStale; split <;> rfl
@[simp] theorem rxStale_tx (s : State) : (rxStale s).tx = s.tx := by unfold rxStale; split <;> rfl
@[simp] theorem rxStale_tr (s : State) : (rxStale s).tr = s.tr := by unfold rxStale; split <;> rfl
@[simp] theorem rxStale_km (s : State) : (rxStale s).km = s.km := by unfold rxStale; split <;> rfl
@[simp] theorem rxStale_lastReport (s : State) : (rxStale s).lastReport = s.lastReport := by unfold rxStale; split <;> rfl
@[simp] theorem rxStale_built (s : State) : (rxStale s).built = s.built := by unfold rxStale; split <;> rfl
@[simp] theorem rxStale_mode (s : State) : (rxStale s).mode = s.mode := by unfold rxStale; split <;> rfl
@[simp] theorem rxStale_cmd (s : State) : (rxStale s).cmd = s.cmd := by unfold rxStale; split <;> rfl
@[simp] theorem rxStale_ledPending (s : State) : (rxStale s).ledPending = s.ledPending := by unfold rxStale; split <;> rfl
@[simp] theorem rxStale_ledUsb (s : State) : (rxStale s).ledUsb = s.ledUsb := by unfold rxStale; split <;> rfl
@[simp] theorem rxStale_fg (s : State) : (rxStale s).fg = s.fg := by unfold rxStale; split <;> rfl
@[simp] theorem rxStale_popped (s : State) : (rxStale s).popped = s.popped := by unfold rxStale; split <;> rfl
@[simp] theorem rxStale_event (s : State) : (rxStale s).event = s.event := by unfold rxStale; split <;> rfl
@[simp] theorem rxStale_edgeLatched (s : State) : (rxStale s).edgeLatched = s.edgeLatched := by unfold rxStale; split <;> rfl
@[simp] theorem rxStale_rx_data (s : State) : (rxStale s).rx.data = s.rx.data := by unfold rxStale; split <;> rfl
@[simp] theorem rxStale_rx_parity (s : State) : (rxStale s).rx.parity = s.rx.parity := by unfold rxStale; split <;> rfl
@[simp] theorem rxStale_rx_lastBitTime (s : State) : (rxStale s).rx.lastBitTime = s.rx.lastBitTime := by unfold rxStale; split <;> rfl
@[simp] theorem rxStale_rx_suppressed (s : State) : (rxStale s).rx.suppressed = s.rx.suppressed := by unfold rxStale; split <;> rfl
@[simp] theorem rxStale_out_reports (s : State) : (rxStale s).out.reports = s.out.reports := by unfold rxStale; split <;> rfl

/-! ### frameGood: what it leaves alone -/

@[simp] theorem frameGood_cfg (s : State) (b : Byte) : (frameGood b s).cfg = s.cfg := by simp [frameGood]
@[simp] theorem frameGood_env (s : State) (b : Byte) : (frameGood b s).env = s.env := by simp [frameGood]
@[simp] theorem frameGood_drive (s : State) (b : Byte) : (frameGood b s).drive = s.drive := by simp [frameGood]
@[simp] theorem frameGood_rx (s : State) (b : Byte) : (frameGood b s).rx = s.rx := by simp [frameGood]
@[simp] theorem frameGood_tx (s : State) (b : Byte) : (frameGood b s).tx = s.tx := by simp [frameGood]
@[simp] theorem frameGood_tr (s : State) (b : Byte) : (frameGood b s).tr = s.tr := by simp [frameGood]
@[simp] theorem frameGood_km (s : State) (b : Byte) : (frameGood b s).km = s.km := by simp [frameGood]
@[simp] theorem frameGood_lastReport (s : State) (b : Byte) : (frameGood b s).lastReport = s.lastReport := by simp [frameGood]
@[simp] theorem frameGood_built (s : State) (b : Byte) : (frameGood b s).built = s.built := by simp [frameGood]
@[simp] theorem frameGood_mode (s : State) (b : Byte) : (frameGood b s).mode = s.mode := by simp [frameGood]
@[simp] theorem frameGood_cmd (s : State) (b : Byte) : (frameGood b s).cmd = s.cmd := by simp [frameGood]
@[simp] theorem frameGood_ledPending (s : State) (b : Byte) : (frameGood b s).ledPending = s.ledPending := by simp [frameGood]
@[simp] theorem frameGood_ledUsb (s : State) (b : Byte) : (frameGood b s).ledUsb = s.ledUsb := by simp [frameGood]
@[simp] theorem frameGood_fg (s : State) (b : Byte) : (frameGood b s).fg = s.fg := by simp [frameGood]
@[simp] theorem frameGood_popped (s : State) (b : Byte) : (frameGood b s).popped = s.popped := by simp [frameGood]
@[simp] theorem frameGood_event (s : State) (b : Byte) : (frameGood b s).event = s.event := by simp [frameGood]
@[simp] theorem frameGood_edgeLatched (s : State) (b : Byte) : (frameGood b s).edgeLatched = s.edgeLatched := by simp [frameGood]
@[simp] theorem frameGood_q_rd (s : State) (b : Byte) : (frameGood b s).q.rd = s.q.rd := by simp [frameGood]
@[simp] theorem frameGood_out_reports (s : State) (b : Byte) : (frameGood b s).out.reports = s.out.reports := by simp [frameGood]

/-! ### frameBad: what it leaves alone -/

@[simp] theorem frameBad_cfg (s : State) (b : Byte) (p d : Bool) : (frameBad b p d s).cfg = s.cfg := by unfold frameBad; cases p <;> cases d <;> rfl
@[simp] theorem frameBad_env (s : State) (b : Byte) (p d : Bool) : (frameBad b p d s).env = s.env := by unfold frameBad; cases p <;> cases d <;> rfl
@[simp] theorem frameBad_drive (s : State) (b : Byte) (p d : Bool) : (frameBad b p d s).drive = s.drive := by unfold frameBad; cases p <;> cases d <;> rfl
@[simp] theorem frameBad_rx (s : State) (b : Byte) (p d : Bool) : (frameBad b p d s).rx = s.rx := by unfold frameBad; cases p <;> cases d <;> rfl
@[simp] theorem frameBad_q (s : State) (b : Byte) (p d : Bool) : (frameBad b p d s).q = s.q := by unfold frameBad; cases p <;> cases d <;> rfl
@[simp] theorem frameBad_tx (s : State) (b : Byte) (p d : Bool) : (frameBad b p d s).tx = s.tx := by unfold frameBad; cases p <;> cases d <;> rfl
@[simp] theorem frameBad_tr (s : State) (b : Byte) (p d : Bool) : (frameBad b p d s).tr = s.tr := by unfold frameBad; cases p <;> cases d <;> rfl
@[simp] theorem frameBad_km (s : State) (b : Byte) (p d : Bool) : (frameBad b p d s).km = s.km := by unfold frameBad; cases p <;> cases d <;> rfl
@[simp] theorem frameBad_lastReport (s : State) (b : Byte) (p d : Bool) : (frameBad b p d s).lastReport = s.lastReport := by unfold frameBad; cases p <;> cases d <;> rfl
@[simp] theorem frameBad_built (s : State) (b : Byte) (p d : Bool) : (frameBad b p d s).built = s.built := by unfold frameBad; cases p <;> cases d <;> rfl
@[simp] theorem frameBad_mode (s : State) (b : Byte) (p d : Bool) : (frameBad b p d s).mode = s.mode := by unfold frameBad; cases p <;> cases d <;> rfl
@[simp] theorem frameBad_cmd (s : State) (b : Byte) (p d : Bool) : (frameBad b p d s).cmd = s.cmd := by unfold frameBad; cases p <;> cases d <;> rfl
@[simp] theorem frameBad_ledPending (s : State) (b : Byte) (p d : Bool) : (frameBad b p d s).ledPending = s.ledPending := by unfold frameBad; cases p <;> cases d <;> rfl
@[simp] theorem frameBad_ledUsb (s : State) (b : Byte) (p d : Bool) : (frameBad b p d s).ledUsb = s.ledUsb := by unfold frameBad; cases p <;> cases d <;> rfl
@[simp] theorem frameBad_fg (s : State) (b : Byte) (p d : Bool) : (frameBad b p d s).fg = s.fg := by unfold frameBad; cases p <;> cases d <;> rfl
@[simp] theorem frameBad_popped (s : State) (b : Byte) (p d : Bool) : (frameBad b p d s).popped = s.popped := by unfold frameBad; cases p <;> cases d <;> rfl
@[simp] theorem frameBad_event (s : State) (b : Byte) (p d : Bool) : (frameBad b p d s).event = s.event := by unfold frameBad; cases p <;> cases d <;> rfl
@[simp] theorem frameBad_edgeLatched (s : State) (b : Byte) (p d : Bool) : (frameBad b p d s).edgeLatched = s.edgeLatched := by unfold frameBad; cases p <;> cases d <;> rfl
@[simp] theorem frameBad_out_reports (s : State) (b : Byte) (p d : Bool) : (frameBad b p d s).out.reports = s.out.reports := by unfold frameBad; cases p <;> cases d <;> rfl

/-! ### cmdAttempt: what it leaves alone -/

@[simp] theorem cmdAttempt_cfg (s : State) : (cmdAttempt s).cfg = s.cfg := by unfold cmdAttempt; split <;> rfl
@[simp] theorem cmdAttempt_env (s : State) : (cmdAttempt s).env = s.env := by unfold cmdAttempt; split <;> rfl
@[simp] theorem cmdAttempt_drive (s : State) : (cmdAttempt s).drive = s.drive := by unfold cmdAttempt; split <;> rfl
@[simp] theorem cmdAttempt_rx (s : State) : (cmdAttempt s).rx = s.rx := by unfold cmdAttempt; split <;> rfl
@[simp] theorem cmdAttempt_resendRequest (s : State) : (cmdAttempt s).resendRequest = s.resendRequest := by unfold cmdAttempt; split <;> rfl
@[simp] theorem cmdAttempt_q (s : State) : (cmdAttempt s).q = s.q := by unfold cmdAttempt; split <;> rfl
@[simp] theorem cmdAttempt_tx (s : State) : (cmdAttempt s).tx = s.tx := by unfold cmdAttempt; split <;> rfl
@[simp] theorem cmdAttempt_tr (s : State) : (cmdAttempt s).tr = s.tr := by unfold cmdAttempt; split <;> rfl
@[simp] theorem cmdAttempt_km (s : State) : (cmdAttempt s).km = s.km := by unfold cmdAttempt; split <;> rfl
@[simp] theorem cmdAttempt_lastReport (s : State) : (cmdAttempt s).lastReport = s.lastReport := by unfold cmdAttempt; split <;> rfl
@[simp] theorem cmdAttempt_built (s : State) : (cmdAttempt s).built = s.built := by unfold cmdAttempt; split <;> rfl
@[simp] theorem cmdAttempt_mode (s : State) : (cmdAttempt s).mode = s.mode := by unfold cmdAttempt; split <;> rfl
@[simp] theorem cmdAttempt_ledPending (s : State) : (cmdAttempt s).ledPending = s.ledPending := by unfold cmdAttempt; split <;> rfl
@[simp] theorem cmdAttempt_ledUsb (s : State) : (cmdAttempt s).ledUsb = s.ledUsb := by unfold cmdAttempt; split <;> rfl
@[simp] theorem cmdAttempt_fg (s : State) : (cmdAttempt s).fg = s.fg := by unfold cmdAttempt; split <;> rfl
@[simp] theorem cmdAttempt_popped (s : State) : (cmdAttempt s).popped = s.popped := by unfold cmdAttempt; split <;> rfl
@[simp] theorem cmdAttempt_event (s : State) : (cmdAttempt s).event = s.event := by unfold cmdAttempt; split <;> rfl
@[simp] theorem cmdAttempt_edgeLatched (s : State) : (cmdAttempt s).edgeLatched = s.edgeLatched := by unfold cmdAttempt; split <;> rfl
@[simp] theorem cmdAttempt_cmd_byte (s : State) : (cmdAttempt s).cmd.byte = s.cmd.byte := by unfold cmdAttempt; split <;> rfl
@[simp] theorem cmdAttempt_cmd_t0 (s : State) : (cmdAttempt s).cmd.t0 = s.cmd.t0 := by unfold cmdAttempt; split <;> rfl
@[simp] theorem cmdAttempt_out_reports (s : State) : (cmdAttempt s).out.reports = s.out.reports := by unfold cmdAttempt; split <;> rfl

/-! ### cmdAfterWrite: what it leaves alone -/

@[simp] theorem cmdAfterWrite_cfg (s : State) : (cmdAfterWrite s).cfg = s.cfg := by unfold cmdAfterWrite; (repeat' split) <;> simp
@[simp] theorem cmdAfterWrite_env (s : State) : (cmdAfterWrite s).env = s.env := by unfold cmdAfterWrite; (repeat' split) <;> simp
@[simp] theorem cmdAfterWrite_drive (s : State) : (cmdAfterWrite s).drive = s.drive := by unfold cmdAfterWrite; (repeat' split) <;> simp
@[simp] theorem cmdAfterWrite_rx (s : State) : (cmdAfterWrite s).rx = s.rx := by unfold cmdAfterWrite; (repeat' split) <;> simp
@[simp] theorem cmdAfterWrite_resendRequest (s : State) : (cmdAfterWrite s).resendRequest = s.resendRequest := by unfold cmdAfterWrite; (repeat' split) <;> simp
@[simp] theorem cmdAfterWrite_q (s : State) : (cmdAfterWrite s).q = s.q := by unfold cmdAfterWrite; (repeat' split) <;> simp
@[simp] theorem cmdAfterWrite_tx (s : State) : (cmdAfterWrite s).tx = s.tx := by unfold cmdAfterWrite; (repeat' split) <;> simp
@[simp] theorem cmdAfterWrite_tr (s : State) : (cmdAfterWrite s).tr = s.tr := by unfold cmdAfterWrite; (repeat' split) <;> simp
@[simp] theorem cmdAfterWrite_km (s : State) : (cmdAfterWrite s).km = s.km := by unfold cmdAfterWrite; (repeat' split) <;> simp
@[simp] theorem cmdAfterWrite_lastReport (s : State) : (cmdAfterWrite s).lastReport = s.lastReport := by unfold cmdAfterWrite; (repeat' split) <;> simp
@[simp] theorem cmdAfterWrite_built (s : State) : (cmdAfterWrite s).built = s.built := by unfold cmdAfterWrite; (repeat' split) <;> simp
@[simp] theorem cmdAfterWrite_mode (s : State) : (cmdAfterWrite s).mode = s.mode := by unfold cmdAfterWrite; (repeat' split) <;> simp
@[simp] theorem cmdAfterWrite_ledPending (s : State) : (cmdAfterWrite s).ledPending = s.ledPending := by unfold cmdAfterWrite; (repeat' split) <;> simp
@[simp] theorem cmdAfterWrite_ledUsb (s : State) : (cmdAfterWrite s).ledUsb = s.ledUsb := by unfold cmdAfterWrite; (repeat' split) <;> simp
@[simp] theorem cmdAfterWrite_fg (s : State) : (cmdAfterWrite s).fg = s.fg := by unfold cmdAfterWrite; (repeat' split) <;> simp
@[simp] theorem cmdAfterWrite_popped (s : State) : (cmdAfterWrite s).popped = s.popped := by unfold cmdAfterWrite; (repeat' split) <;> simp
@[simp] theorem cmdAfterWrite_event (s : State) : (cmdAfterWrite s).event = s.event := by unfold cmdAfterWrite; (repeat' split) <;> simp
@[simp] theorem cmdAfterWrite_edgeLatched (s : State) : (cmdAfterWrite s).edgeLatched = s.edgeLatched := by unfold cmdAfterWrite; (repeat' split) <;> simp
@[simp] theorem cmdAfterWrite_cmd_byte (s : State) : (cmdAfterWrite s).cmd.byte = s.cmd.byte := by unfold cmdAfterWrite; (repeat' split) <;> simp
@[simp] theorem cmdAfterWrite_out_reports (s : State) : (cmdAfterWrite s).out.reports = s.out.reports := by unfold cmdAfterWrite; (repeat' split) <;> simp

/-! ### replyOther: what it leaves alone -/

@[simp] theorem replyOther_cfg (s : State) (b : Byte) : (replyOther b s).cfg = s.cfg := by simp [replyOther]
@[simp] theorem replyOther_env (s : State) (b : Byte) : (replyOther b s).env = s.env := by simp [replyOther]
@[simp] theorem replyOther_drive (s : State) (b : Byte) : (replyOther b s).drive = s.drive := by simp [replyOther]
@[simp] theorem replyOther_rx (s : State) (b : Byte) : (replyOther b s).rx = s.rx := by simp [replyOther]
@[simp] theorem replyOther_resendRequest (s : State) (b : Byte) : (replyOther b s).resendRequest = s.resendRequest := by simp [replyOther]
@[simp] theorem replyOther_q (s : State) (b : Byte) : (replyOther b s).q = s.q := by simp [replyOther]
@[simp] theorem replyOther_tx (s : State) (b : Byte) : (replyOther b s).tx = s.tx := by simp [replyOther]
@[simp] theorem replyOther_tr (s : State) (b : Byte) : (replyOther b s).tr = s.tr := by simp [replyOther]
@[simp] theorem replyOther_km (s : State) (b : Byte) : (replyOther b s).km = s.km := by simp [replyOther]
@[simp] theorem replyOther_lastReport (s : State) (b : Byte) : (replyOther b s).lastReport = s.lastReport := by simp [replyOther]
@[simp] theorem replyOther_built (s : State) (b : Byte) : (replyOther b s).built = s.built := by simp [replyOther]
@[simp] theorem replyOther_mode (s : State) (b : Byte) : (replyOther b s).mode = s.mode := by simp [replyOther]
@[simp] theorem replyOther_ledPending (s : State) (b : Byte) : (replyOther b s).ledPending = s.ledPending := by simp [replyOther]
@[simp] theorem replyOther_ledUsb (s : State) (b : Byte) : (replyOther b s).ledUsb = s.ledUsb := by simp [replyOther]
@[simp] theorem replyOther_fg (s : State) (b : Byte) : (replyOther b s).fg = s.fg := by simp [replyOther]
@[simp] theorem replyOther_popped (s : State) (b : Byte) : (replyOther b s).popped = s.popped := by simp [replyOther]
@[simp] theorem replyOther_event (s : State) (b : Byte) : (replyOther b s).event = s.event := by simp [replyOther]
@[simp] theorem replyOther_edgeLatched (s : State) (b : Byte) : (replyOther b s).edgeLatched = s.edgeLatched := by simp [replyOther]
@[simp] theorem replyOther_cmd_byte (s : State) (b : Byte) : (replyOther b s).cmd.byte = s.cmd.byte := by simp [replyOther]
@[simp] theorem replyOther_cmd_t0 (s : State) (b : Byte) : (replyOther b s).cmd.t0 = s.cmd.t0 := by simp [replyOther]
@[simp] theorem replyOther_out_reports (s : State) (b : Byte) : (replyOther b s).out.reports = s.out.reports := by simp [replyOther]

/-! ### replyNone: what it leaves alone -/

@[simp] theorem replyNone_cfg (s : State) : (replyNone s).cfg = s.cfg := by unfold replyNone; split <;> simp
@[simp] theorem replyNone_env (s : State) : (replyNone s).env = s.env := by unfold replyNone; split <;> simp
@[simp] theorem replyNone_drive (s : State) : (replyNone s).drive = s.drive := by unfold replyNone; split <;> simp
@[simp] theorem replyNone_rx (s : State) : (replyNone s).rx = s.rx := by unfold replyNone; split <;> simp
@[simp] theorem replyNone_resendRequest (s : State) : (replyNone s).resendRequest = s.resendRequest := by unfold replyNone; split <;> simp
@[simp] theorem replyNone_q (s : State) : (replyNone s).q = s.q := by unfold replyNone; split <;> simp
@[simp] theorem replyNone_tx (s : State) : (replyNone s).tx = s.tx := by unfold replyNone; split <;> simp
@[simp] theorem replyNone_tr (s : State) : (replyNone s).tr = s.tr := by unfold replyNone; split <;> simp
@[simp] theorem replyNone_km (s : State) : (replyNone s).km = s.km := by unfold replyNone; split <;> simp
@[simp] theorem replyNone_lastReport (s : State) : (replyNone s).lastReport = s.lastReport := by unfold replyNone; split <;> simp
@[simp] theorem replyNone_built (s : State) : (replyNone s).built = s.built := by unfold replyNone; split <;> simp
@[simp] theorem replyNone_mode (s : State) : (replyNone s).mode = s.mode := by unfold replyNone; split <;> simp
@[simp] theorem replyNone_ledPending (s : State) : (replyNone s).ledPending = s.ledPending := by unfold replyNone; split <;> simp
@[simp] theorem replyNone_ledUsb (s : State) : (replyNone s).ledUsb = s.ledUsb := by unfold replyNone; split <;> simp
@[simp] theorem replyNone_fg (s : State) : (replyNone s).fg = s.fg := by unfold replyNone; split <;> simp
@[simp] theorem replyNone_popped (s : State) : (replyNone s).popped = s.popped := by unfold replyNone; split <;> simp
@[simp] theorem replyNone_event (s : State) : (replyNone s).event = s.event := by unfold replyNone; split <;> simp
@[simp] theorem replyNone_edgeLatched (s : State) : (replyNone s).edgeLatched = s.edgeLatched := by unfold replyNone; split <;> simp
@[simp] theorem replyNone_cmd_byte (s : State) : (replyNone s).cmd.byte = s.cmd.byte := by unfold replyNone; split <;> simp
@[simp] theorem replyNone_cmd_t0 (s : State) : (replyNone s).cmd.t0 = s.cmd.t0 := by unfold replyNone; split <;> simp
@[simp] theorem replyNone_out_reports (s : State) : (replyNone s).out.reports = s.out.reports := by unfold replyNone; split <;> simp

/-! ### lineAck: what it leaves alone -/

@[simp] theorem lineAck_cfg (s : State) (a : Bool) : (lineAck a s).cfg = s.cfg := by cases a <;> rfl
@[simp] theorem lineAck_env (s : State) (a : Bool) : (lineAck a s).env = s.env := by cases a <;> rfl
@[simp] theorem lineAck_resendRequest (s : State) (a : Bool) : (lineAck a s).resendRequest = s.resendRequest := by cases a <;> rfl
@[simp] theorem lineAck_q (s : State) (a : Bool) : (lineAck a s).q = s.q := by cases a <;> rfl
@[simp] theorem lineAck_tr (s : State) (a : Bool) : (lineAck a s).tr = s.tr := by cases a <;> rfl
@[simp] theorem lineAck_km (s : State) (a : Bool) : (lineAck a s).km = s.km := by cases a <;> rfl
@[simp] theorem lineAck_lastReport (s : State) (a : Bool) : (lineAck a s).lastReport = s.lastReport := by cases a <;> rfl
@[simp] theorem lineAck_built (s : State) (a : Bool) : (lineAck a s).built = s.built := by cases a <;> rfl
@[simp] theorem lineAck_mode (s : State) (a : Bool) : (lineAck a s).mode = s.mode := by cases a <;> rfl
@[simp] theorem lineAck_cmd (s : State) (a : Bool) : (lineAck a s).cmd = s.cmd := by cases a <;> rfl
@[simp] theorem lineAck_ledPending (s : State) (a : Bool) : (lineAck a s).ledPending = s.ledPending := by cases a <;> rfl
@[simp] theorem lineAck_ledUsb (s : State) (a : Bool) : (lineAck a s).ledUsb = s.ledUsb := by cases a <;> rfl
@[simp] theorem lineAck_fg (s : State) (a : Bool) : (lineAck a s).fg = s.fg := by cases a <;> rfl
@[simp] theorem lineAck_popped (s : State) (a : Bool) : (lineAck a s).popped = s.popped := by cases a <;> rfl
@[simp] theorem lineAck_event (s : State) (a : Bool) : (lineAck a s).event = s.event := by cases a <;> rfl
@[simp] theorem lineAck_rx_bitCount (s : State) (a : Bool) : (lineAck a s).rx.bitCount = s.rx.bitCount := by cases a <;> rfl
@[simp] theorem lineAck_rx_data (s : State) (a : Bool) : (lineAck a s).rx.data = s.rx.data := by cases a <;> rfl
@[simp] theorem lineAck_rx_parity (s : State) (a : Bool) : (lineAck a s).rx.parity = s.rx.parity := by cases a <;> rfl
@[simp] theorem lineAck_rx_lastBitTime (s : State) (a : Bool) : (lineAck a s).rx.lastBitTime = s.rx.lastBitTime := by cases a <;> rfl
@[simp] theorem lineAck_tx_byte (s : State) (a : Bool) : (lineAck a s).tx.byte = s.tx.byte := by cases a <;> rfl
@[simp] theorem lineAck_tx_index (s : State) (a : Bool) : (lineAck a s).tx.index = s.tx.index := by cases a <;> rfl
@[simp] theorem lineAck_tx_t0 (s : State) (a : Bool) : (lineAck a s).tx.t0 = s.tx.t0 := by cases a <;> rfl
@[simp] theorem lineAck_out_reports (s : State) (a : Bool) : (lineAck a s).out.reports = s.out.reports := by cases a <;> rfl

/-! ### Everything each can do -/

theorem queuePush_of_full {s : State} (h : s.queueFull = true) (b : Byte) :
    queuePush b s = s.raise (.queueOverflow b) := by simp [queuePush, h]

theorem queuePush_of_room {s : State} (h : s.queueFull = false) (b : Byte) :
    queuePush b s = { s with q := { s.q with
      buf := s.q.buf.write (s.q.wr % s.cfg.queueSlots) b, wr := nextSlot s.cfg s.q.wr } } := by simp [queuePush, h]

theorem queuePush_of_full_q {s : State} (h : s.queueFull = true) (b : Byte) : (queuePush b s).q = s.q := by
  rw [queuePush_of_full h]; rfl

theorem queueDrop_of_empty {s : State} (h : s.queueEmpty = true) : queueDrop s = s := by simp [queueDrop, h]

theorem queueDrop_of_some {s : State} (h : s.queueEmpty = false) :
    queueDrop s = { s with q := { s.q with rd := nextSlot s.cfg s.q.rd } } := by simp [queueDrop, h]

theorem queueHead_eq_none {s : State} : s.queueHead = none ↔ s.q.wr = s.q.rd := by
  simp [State.queueHead, State.queueEmpty]

theorem queueHead_eq_some {s : State} {b : Byte} (h : s.queueHead = some b) :
    s.queueEmpty = false ∧ b = s.q.buf.read (s.q.rd % s.cfg.queueSlots) := by
  unfold State.queueHead at h
  split at h
  · cases h
  · rename_i he
    exact ⟨by simpa using he, by simpa using h.symm⟩

/-- RX.STALE either does nothing or discards the partial frame. -/
theorem rxStale_cases (s : State) :
    rxStale s = s ∨
    (s.rx.bitCount ≠ 0 ∧ expired s.cfg s.cfg.tStaleMs s.rx.lastBitTime s.env.msNow = true ∧
      rxStale s = { s with
        rx := { s.rx with bitCount := 0 }
        out := { s.out with faults := .staleFrame s.rx.bitCount :: s.out.faults } }) := by
  unfold rxStale
  split
  · rename_i h; exact .inr ⟨h.1, h.2, rfl⟩
  · exact .inl rfl

theorem rxStale_of_zero {s : State} (h : s.rx.bitCount = 0) : rxStale s = s := by simp [rxStale, h]

theorem rxStale_of_fresh {s : State} (h : expired s.cfg s.cfg.tStaleMs s.rx.lastBitTime s.env.msNow = false) :
    rxStale s = s := by simp [rxStale, h]

@[simp] theorem rxStale_clk (s : State) : (rxStale s).clk = s.clk := by simp [State.clk]
@[simp] theorem rxStale_data (s : State) : (rxStale s).data = s.data := by simp [State.data]

theorem rxStale_bitCount_eq (s : State) :
    (rxStale s).rx.bitCount =
      if s.rx.bitCount ≠ 0 ∧ expired s.cfg s.cfg.tStaleMs s.rx.lastBitTime s.env.msNow then 0 else s.rx.bitCount := by
  unfold rxStale; split <;> rfl

theorem rxStale_bitCount (s : State) : (rxStale s).rx.bitCount = s.rx.bitCount ∨ (rxStale s).rx.bitCount = 0 := by
  rcases rxStale_cases s with h | ⟨-, -, h⟩ <;> rw [h] <;> simp

@[simp] theorem frameGood_resendRequest (s : State) (b : Byte) : (frameGood b s).resendRequest = false := rfl
@[simp] theorem frameGood_q' (s : State) (b : Byte) : (frameGood b s).q = (queuePush b s).q := rfl
@[simp] theorem frameGood_out (s : State) (b : Byte) : (frameGood b s).out = (queuePush b s).out := rfl
@[simp] theorem frameBad_resendRequest (s : State) (b : Byte) (p d : Bool) : (frameBad b p d s).resendRequest = true := rfl

/-- A push changes the ring's write side and the logs only. -/
theorem queuePush_frame (b : Byte) (s : State) :
    queuePush b s = { s with q := { (queuePush b s).q with rd := s.q.rd }, out := (queuePush b s).out } := by
  unfold queuePush; split <;> rfl

theorem frameGood_frame (b : Byte) (s : State) :
    frameGood b s = { s with
      q := { (queuePush b s).q with rd := s.q.rd }, resendRequest := false, out := (queuePush b s).out } := by
  unfold frameGood queuePush; split <;> rfl

theorem frameBad_frame (b : Byte) (p d : Bool) (s : State) :
    frameBad b p d s = { s with resendRequest := true, out := (frameBad b p d s).out } := by
  cases p <;> cases d <;> rfl

/-- The faults of a faulty frame, the parity fault first (R262). -/
theorem frameBad_faults (s : State) (b : Byte) (p d : Bool) :
    (frameBad b p d s).out.faults =
      (if d then [.framingFault b] else []) ++ (if p then [.parityFault b] else []) ++ s.out.faults := by
  cases p <;> cases d <;> rfl

/-- A write starts exactly at rest. -/
theorem txBegin_next {b : Byte} {s t : State} (h : txBegin b s = .next t) :
    s.tx.phase.atRest = true ∧
    t = { s with tx := { s.tx with byte := b, index := 0, t0 := s.env.msNow, phase := .waitIdle } } := by
  unfold txBegin at h
  split at h
  · exact ⟨‹_›, by simpa using h.symm⟩
  · cases h

/-- The attempt block gives up or sends. -/
theorem cmdAttempt_cases (s : State) :
    (s.cmd.attempts = s.cfg.cmdMaxAttempts ∧
      cmdAttempt s = { s with
        cmd := { s.cmd with phase := .idle, result := false }
        out := { s.out with faults := .cmdExhausted s.cmd.byte :: s.out.faults } }) ∨
    (s.cmd.attempts ≠ s.cfg.cmdMaxAttempts ∧
      cmdAttempt s = { s with cmd := { s.cmd with attempts := s.cmd.attempts + 1, phase := .send, writeDue := true } }) := by
  unfold cmdAttempt
  split
  · exact .inl ⟨‹_›, rfl⟩
  · exact .inr ⟨‹_›, rfl⟩

/-- S.CMD is entered exactly at C_IDLE. -/
theorem cmdBegin_next {b : Byte} {s t : State} (h : cmdBegin b s = .next t) :
    s.cmd.phase = .idle ∧ t = cmdAttempt { s with cmd := { s.cmd with byte := b, attempts := 0 } } := by
  unfold cmdBegin at h
  split at h
  · exact ⟨‹_›, by simpa using h.symm⟩
  · cases h

/-- One operation after another answers next exactly when both do. -/
theorem andThen_next {o : Outcome} {f : State → Outcome} {t : State} :
    andThen o f = .next t ↔ ∃ s, o = .next s ∧ f s = .next t := by
  cases o <;> simp [andThen]

@[simp] theorem andThen_of_next (s : State) (f : State → Outcome) : andThen (.next s) f = f s := rfl

end Sys2Proof.Machine
end

