-- ==== Sys2Proof/Laws/PerInstr.lean ====
section
/-! SUPPORT. A statement about every operation as syntax, proved constructor by constructor: its selector is in the format that the
"format" column of the opcode table gives its row. -/

namespace Sys2Proof.Laws.SelectorFormat

/-- The encoder puts an operation in its own format, under every configuration (R90, R118). -/
def Statement (i : Instr) : Prop := ∀ c : Config, (encode c i).format = i.format

theorem rxStart : Statement .rxStart := fun _ => rfl
theorem rxSpurious : Statement .rxSpurious := fun _ => rfl
theorem rxData (k : BitVec 4) (d : Bool) : Statement (.rxData k d) := fun _ => rfl
theorem rxParity (d : Bool) : Statement (.rxParity d) := fun _ => rfl
theorem rxStop (d : Bool) : Statement (.rxStop d) := fun _ => rfl
theorem rxStale : Statement .rxStale := fun _ => rfl
theorem rxStep : Statement .rxStep := fun _ => rfl
theorem frame11 (w : BitVec 11) : Statement (.frame11 w) := fun _ => rfl
theorem txLineAck (a : Bool) : Statement (.txLineAck a) := fun _ => rfl
theorem qPush (b : Byte) : Statement (.qPush b) := fun _ => rfl
theorem qPop : Statement .qPop := fun _ => rfl
theorem tRelease : Statement .tRelease := fun _ => rfl
theorem tReleaseSetX : Statement .tReleaseSetX := fun _ => rfl
theorem tExt (b : Byte) : Statement (.tExt b) := fun _ => rfl
theorem tSpecial : Statement .tSpecial := fun _ => rfl
theorem tKey (b : Byte) : Statement (.tKey b) := fun _ => rfl
theorem tKey1C : Statement .tKey1C := fun _ => rfl
theorem translate (b : Byte) : Statement (.translate b) := fun _ => rfl
theorem replyAck : Statement .replyAck := fun _ => rfl
theorem replyResend : Statement .replyResend := fun _ => rfl
theorem replyOther (b : Byte) : Statement (.replyOther b) := fun _ => rfl
theorem replyNone : Statement .replyNone := fun _ => rfl
theorem cmdResend : Statement .cmdResend := fun _ => rfl
theorem cmdSetLeds : Statement .cmdSetLeds := fun _ => rfl
theorem cmdSelectCodeSet : Statement .cmdSelectCodeSet := fun _ => rfl
theorem cmdDisableTypematic : Statement .cmdDisableTypematic := fun _ => rfl
theorem ledUsb (u : Byte) : Statement (.ledUsb u) := fun _ => rfl
theorem ledLegacy (c : Bool) (n : Bool) (s : Bool) : Statement (.ledLegacy c n s) := fun _ => rfl
theorem event (rel : Bool) (id : Byte) : Statement (.event rel id) := fun _ => rfl
theorem report8 : Statement .report8 := fun _ => rfl
theorem rolloverSentinel : Statement .rolloverSentinel := fun _ => rfl
theorem txWrite (b : Byte) : Statement (.txWrite b) := fun _ => rfl
theorem txWaitIdle : Statement .txWaitIdle := fun _ => rfl
theorem txSettle : Statement .txSettle := fun _ => rfl
theorem txInhibit : Statement .txInhibit := fun _ => rfl
theorem txStart : Statement .txStart := fun _ => rfl
theorem txWaitLow : Statement .txWaitLow := fun _ => rfl
theorem txWaitHigh : Statement .txWaitHigh := fun _ => rfl
theorem txAckWaitLow : Statement .txAckWaitLow := fun _ => rfl
theorem txAckWaitRelease : Statement .txAckWaitRelease := fun _ => rfl
theorem txFail (f : TxFault) : Statement (.txFail f) := fun _ => rfl
theorem txSucceed : Statement .txSucceed := fun _ => rfl
theorem mApply (id : Byte) (rel : Bool) : Statement (.mApply id rel) := fun _ => rfl
theorem rBuild : Statement .rBuild := fun _ => rfl
theorem rDeliver : Statement .rDeliver := fun _ => rfl
theorem rDeliverReq : Statement .rDeliverReq := fun _ => rfl
theorem sCmd (b : Byte) : Statement (.sCmd b) := fun _ => rfl
theorem sStartup : Statement .sStartup := fun _ => rfl
theorem sLed : Statement .sLed := fun _ => rfl
theorem ledIn (u : Byte) : Statement (.ledIn u) := fun _ => rfl
theorem sResend : Statement .sResend := fun _ => rfl
theorem sLoop : Statement .sLoop := fun _ => rfl
theorem sSleep : Statement .sSleep := fun _ => rfl
theorem lineInit : Statement .lineInit := fun _ => rfl

end Sys2Proof.Laws.SelectorFormat
end

