-- ==== Sys2Proof/Laws/Queue.lean ====
section
/-! SUPPORT. The ring as a list: what a push and a pop do to the queued bytes and to the ring's invariant. -/

namespace Sys2Proof.Machine

/-- The next cursor value, without the modulus. -/
theorem nextSlot_eq {c : Config} {i : Nat} (h : i < c.queueSlots) :
    nextSlot c i = if i + 1 = c.queueSlots then 0 else i + 1 := by
  unfold nextSlot
  split
  · rename_i e; rw [e, Nat.mod_self]
  · exact Nat.mod_eq_of_lt (by omega)

theorem nextSlot_lt {c : Config} {i : Nat} (h : i < c.queueSlots) : nextSlot c i < c.queueSlots :=
  Nat.mod_lt _ (by omega)

/-- The number of queued bytes, without the modulus. -/
theorem occupancy_eq {s : State} (h : QueueInv s) :
    s.occupancy = if s.q.rd ≤ s.q.wr then s.q.wr - s.q.rd else s.q.wr + s.cfg.queueSlots - s.q.rd := by
  have hw := h.wr_lt
  have hr := h.rd_lt
  unfold State.occupancy
  split
  · rw [show s.q.wr + s.cfg.queueSlots - s.q.rd = (s.q.wr - s.q.rd) + s.cfg.queueSlots by omega, Nat.add_mod_right,
      Nat.mod_eq_of_lt (by omega)]
  · exact Nat.mod_eq_of_lt (by omega)

theorem queued_length (s : State) : s.queued.length = s.occupancy := by simp [State.queued]

/-- The `k`-th cell from the read cursor on, without the modulus. -/
theorem slot_eq {n r k : Nat} (hr : r < n) (hk : k < n) : (r + k) % n = if r + k < n then r + k else r + k - n := by
  split
  · exact Nat.mod_eq_of_lt ‹_›
  · rw [Nat.mod_eq_sub_mod (by omega), Nat.mod_eq_of_lt (by omega)]

theorem QueueInv.of_eq {s t : State} (h : QueueInv s) (hc : t.cfg = s.cfg) (hq : t.q = s.q) : QueueInv t where
  wr_lt := by rw [hc, hq]; exact h.wr_lt
  rd_lt := by rw [hc, hq]; exact h.rd_lt
  cells_wf := by rw [hq]; exact h.cells_wf
  cells_inside := by rw [hc, hq]; exact h.cells_inside

theorem queued_of_eq {s t : State} (hc : t.cfg = s.cfg) (hq : t.q = s.q) : t.queued = s.queued := by
  simp [State.queued, State.occupancy, hc, hq]

theorem queueFull_iff (s : State) : s.queueFull = true ↔ (s.q.wr + 1) % s.cfg.queueSlots = s.q.rd :=
  decide_eq_true_iff

/-! ### Push -/

theorem queuePush_inv {s : State} (h : QueueInv s) (b : Byte) : QueueInv (queuePush b s) := by
  cases hf : s.queueFull with
  | true => exact h.of_eq (by simp) (queuePush_of_full_q hf b)
  | false =>
    rw [queuePush_of_room hf]
    exact {
      wr_lt := nextSlot_lt h.wr_lt
      rd_lt := h.rd_lt
      cells_wf := Memory.write_wf h.cells_wf _ _
      cells_inside := by
        intro x hx
        rcases Memory.mem_write hx with e | hm
        · rw [e]; exact Nat.mod_lt _ (Nat.lt_of_le_of_lt (Nat.zero_le _) h.wr_lt)
        · exact h.cells_inside x hm }

/-- A push into a ring with room puts the byte behind the queued ones. -/
theorem queued_push {s : State} (h : QueueInv s) (hf : s.queueFull = false) (b : Byte) :
    (queuePush b s).queued = s.queued ++ [b] := by
  have hw := h.wr_lt
  have hr := h.rd_lt
  have hn : nextSlot s.cfg s.q.wr ≠ s.q.rd := by simpa [State.queueFull] using hf
  have hocc : (queuePush b s).occupancy = s.occupancy + 1 := by
    rw [occupancy_eq (queuePush_inv h b), occupancy_eq h, queuePush_of_room hf]
    simp only
    rw [nextSlot_eq hw] at hn ⊢
    split_ifs at hn ⊢ <;> omega
  have hlt : s.occupancy < s.cfg.queueSlots := by
    rw [occupancy_eq h]; split <;> omega
  have hread : ∀ a, (queuePush b s).q.buf.read a = if a = s.q.wr then b else s.q.buf.read a := by
    intro a
    rw [queuePush_of_room hf]
    simp only
    rw [Memory.read_write h.cells_wf, Nat.mod_eq_of_lt hw]
  unfold State.queued
  rw [hocc, List.range_succ, List.map_append]
  simp only [queuePush_cfg, queuePush_q_rd, hread, List.map_cons, List.map_nil]
  congr 1
  · apply List.map_congr_left
    intro k hk
    have hk' : k < s.occupancy := by simpa using hk
    have : (s.q.rd + k) % s.cfg.queueSlots ≠ s.q.wr := by
      rw [slot_eq hr (by omega)]
      rw [occupancy_eq h] at hk'
      split at hk' <;> split <;> omega
    simp [this]
  · have : (s.q.rd + s.occupancy) % s.cfg.queueSlots = s.q.wr := by
      rw [slot_eq hr hlt, occupancy_eq h]
      split <;> split <;> omega
    simp [this]

/-- A push in any case: appended, or dropped. -/
theorem queued_push_cases {s : State} (h : QueueInv s) (b : Byte) :
    (queuePush b s).queued = if s.queueFull then s.queued else s.queued ++ [b] := by
  cases hf : s.queueFull with
  | true => simpa using queued_of_eq (by simp) (queuePush_of_full_q hf b)
  | false => simpa using queued_push h hf b

/-! ### Pop -/

theorem queueDrop_inv {s : State} (h : QueueInv s) : QueueInv (queueDrop s) := by
  cases he : s.queueEmpty with
  | true => rw [queueDrop_of_empty he]; exact h
  | false =>
    rw [queueDrop_of_some he]
    exact { wr_lt := h.wr_lt, rd_lt := nextSlot_lt h.rd_lt, cells_wf := h.cells_wf, cells_inside := h.cells_inside }

/-- A pop from a ring that is not empty takes the oldest byte off the queued ones. -/
theorem queued_drop {s : State} (h : QueueInv s) (he : s.q.rd ≠ s.q.wr) :
    s.queued = s.q.buf.read s.q.rd :: (queueDrop s).queued := by
  have hw := h.wr_lt
  have hr := h.rd_lt
  have he' : s.queueEmpty = false := by simp [State.queueEmpty]; omega
  have hocc : s.occupancy = (queueDrop s).occupancy + 1 := by
    rw [occupancy_eq (queueDrop_inv h), occupancy_eq h, queueDrop_of_some he']
    simp only
    rw [nextSlot_eq hr]
    split <;> split <;> split <;> omega
  have hlt : s.occupancy < s.cfg.queueSlots := by
    rw [occupancy_eq h]; split <;> omega
  unfold State.queued
  rw [hocc, List.range_succ_eq_map, List.map_cons, List.map_map]
  congr 1
  · simp [Nat.mod_eq_of_lt hr]
  · apply List.map_congr_left
    intro k hk
    have hk' : k < (queueDrop s).occupancy := by simpa using hk
    rw [queueDrop_of_some he']
    simp only [Function.comp, nextSlot]
    rw [Nat.mod_add_mod]
    congr 2
    omega

theorem queueHead_queued {s : State} (h : QueueInv s) {b : Byte} (hb : s.queueHead = some b) :
    s.queued = b :: (queueDrop s).queued := by
  obtain ⟨he, rfl⟩ := queueHead_eq_some hb
  rw [Nat.mod_eq_of_lt h.rd_lt]
  exact queued_drop h (by simp [State.queueEmpty] at he; omega)

/-- Nothing is queued exactly when the cursors are equal. -/
theorem queued_eq_nil {s : State} (h : QueueInv s) : s.queued = [] ↔ s.q.wr = s.q.rd := by
  rw [← List.length_eq_zero_iff, queued_length, occupancy_eq h]
  have := h.wr_lt
  have := h.rd_lt
  split <;> omega

end Sys2Proof.Machine
end

