-- ==== Sys2Proof/Laws/Report.lean ====
section
/-! SUPPORT. The matrix bit an event writes, the held keys as a list, and what R.BUILD's scan has found after any part of it. -/

namespace Sys2Proof.Machine

theorem setBit_bit {n : Nat} (v : BitVec n) (i : Nat) (x : Bool) {j : Nat} (hj : j < n) :
    (setBit v i x).getLsbD j = if j = i then x else v.getLsbD j := by
  unfold setBit
  split <;> by_cases h : j = i <;> simp_all

/-- The equivalent form of R201: KM[id] is `not rel` afterwards, every other bit as before. -/
theorem applyEvent_bit (id : Byte) (rel : Bool) (km : Matrix) {j : Nat} (hj : j < 256) :
    (applyEvent id rel km).getLsbD j = if j = id.toNat then !rel else km.getLsbD j := by
  unfold applyEvent
  split
  · exact setBit_bit _ _ _ hj
  · rename_i h
    split
    · subst j; revert h; cases rel <;> simp
    · rfl

/-- The report whose slots list `h` from its start, zero behind it. -/
def slotsOf (m : Byte) (h : List Nat) : Report :=
  { modifiers := m, reserved := 0x00
    slot0 := BitVec.ofNat 8 (h[0]?.getD 0), slot1 := BitVec.ofNat 8 (h[1]?.getD 0), slot2 := BitVec.ofNat 8 (h[2]?.getD 0)
    slot3 := BitVec.ofNat 8 (h[3]?.getD 0), slot4 := BitVec.ofNat 8 (h[4]?.getD 0), slot5 := BitVec.ofNat 8 (h[5]?.getD 0) }

theorem slotsOf_append (m : Byte) (h : List Nat) (i : Nat) :
    slotsOf m (h ++ [i]) = (slotsOf m h).setSlot h.length (BitVec.ofNat 8 i) := by
  match h with
  | [] => rfl
  | [_] => rfl
  | [_, _] => rfl
  | [_, _, _] => rfl
  | [_, _, _, _] => rfl
  | [_, _, _, _, _] => rfl
  | _ :: _ :: _ :: _ :: _ :: _ :: rest => simp [slotsOf, Report.setSlot]

theorem slotsOf_setSlot_zero (m : Byte) (h : List Nat) {k : Nat} (hk : h.length ≤ k) :
    (slotsOf m h).setSlot k 0x00 = slotsOf m h := by
  have e : ∀ j, h.length ≤ j → h[j]?.getD 0 = 0 := fun j hj => by simp [List.getElem?_eq_none hj]
  match k with
  | 0 => simp [slotsOf, Report.setSlot, e 0 hk]
  | 1 => simp [slotsOf, Report.setSlot, e 1 hk]
  | 2 => simp [slotsOf, Report.setSlot, e 2 hk]
  | 3 => simp [slotsOf, Report.setSlot, e 3 hk]
  | 4 => simp [slotsOf, Report.setSlot, e 4 hk]
  | 5 => simp [slotsOf, Report.setSlot, e 5 hk]
  | _ + 6 => rfl

/-- One step of the scan on a key found: the key list grows, the slots hold its first `slots` keys. -/
theorem scanStep_found (slots : Nat) {km : Matrix} (m : Byte) (h : List Nat) {i : Nat} (hk : (slotKey i && km.getLsbD i) = true) :
    scanStep slots km { n := h.length, r := slotsOf m (h.take slots) } i =
      { n := (h ++ [i]).length, r := slotsOf m ((h ++ [i]).take slots) } := by
  simp only [scanStep, hk, if_true, List.length_append, List.length_singleton]
  congr 1
  by_cases hl : h.length < slots
  · rw [if_pos hl, List.take_of_length_le (by omega), List.take_of_length_le (by simp; omega), slotsOf_append]
  · rw [if_neg hl, List.take_append_of_le_length (by omega)]

/-- The scan over any list of indices, begun with the keys `h` already found. -/
theorem scan_foldl (slots : Nat) (km : Matrix) (m : Byte) (l h : List Nat) :
    l.foldl (scanStep slots km) { n := h.length, r := slotsOf m (h.take slots) } =
      { n := (h ++ l.filter (fun i => slotKey i && km.getLsbD i)).length
        r := slotsOf m ((h ++ l.filter (fun i => slotKey i && km.getLsbD i)).take slots) } := by
  induction l generalizing h with
  | nil => simp
  | cons i l ih =>
    rw [List.foldl_cons]
    cases hk : (slotKey i && km.getLsbD i) with
    | true => rw [scanStep_found slots m h hk, ih, List.filter_cons, if_pos hk, List.append_assoc]; rfl
    | false =>
      have e : ∀ a, scanStep slots km a i = a := fun a => by simp [scanStep, hk]
      rw [e, ih, List.filter_cons, if_neg (by simp [hk])]

theorem heldKeys_eq (km : Matrix) :
    heldKeys km = (List.range' 1 255).filter (fun i => slotKey i && km.getLsbD i) := by
  rw [heldKeys, List.range_eq_range', List.range'_succ, List.filter_cons, if_neg (by simp [slotKey])]

/-- What the whole scan of R203 has found: the held non-modifier keys, the first ones in the slots. -/
theorem scanMatrix_eq (slots : Nat) (km : Matrix) :
    scanMatrix slots km = { n := (heldKeys km).length, r := slotsOf (modByte km) ((heldKeys km).take slots) } := by
  have h := scan_foldl slots km (modByte km) (List.range' 1 255) []
  rw [List.take_nil, List.nil_append, ← heldKeys_eq] at h
  rw [← h, scanMatrix]; rfl

/-- The padding of R203 finds its slots zero already. -/
theorem padSlots_slotsOf (slots : Nat) (m : Byte) (h : List Nat) :
    padSlots slots h.length (slotsOf m (h.take slots)) = slotsOf m (h.take slots) := by
  unfold padSlots
  generalize List.range slots = l
  induction l with
  | nil => rfl
  | cons k l ih =>
    rw [List.foldl_cons]
    by_cases hk : h.length ≤ k
    · rw [if_pos hk, slotsOf_setSlot_zero _ _ (by simp; omega), ih]
    · rw [if_neg hk, ih]

/-! ### Filling the slots -/

theorem fillSlots_succ (r : Report) (n : Nat) (b : Byte) : r.fillSlots (n + 1) b = (r.fillSlots n b).setSlot n b := by
  simp [Report.fillSlots, List.range_succ]

theorem setSlot_byte (r : Report) (n k : Nat) (b : Byte) (hk : k < 6) :
    (r.setSlot n b).byte (2 + k) = if k = n then b else r.byte (2 + k) := by
  match n with
  | 0 | 1 | 2 | 3 | 4 | 5 => interval_cases k <;> rfl
  | n + 6 => rw [if_neg (by omega)]; rfl

@[simp] theorem setSlot_modifiers (r : Report) (n : Nat) (b : Byte) : (r.setSlot n b).modifiers = r.modifiers := by
  unfold Report.setSlot; split <;> rfl

@[simp] theorem setSlot_reserved (r : Report) (n : Nat) (b : Byte) : (r.setSlot n b).reserved = r.reserved := by
  unfold Report.setSlot; split <;> rfl

@[simp] theorem fillSlots_modifiers (r : Report) (n : Nat) (b : Byte) : (r.fillSlots n b).modifiers = r.modifiers := by
  induction n with
  | zero => rfl
  | succ n ih => rw [fillSlots_succ, setSlot_modifiers, ih]

@[simp] theorem fillSlots_reserved (r : Report) (n : Nat) (b : Byte) : (r.fillSlots n b).reserved = r.reserved := by
  induction n with
  | zero => rfl
  | succ n ih => rw [fillSlots_succ, setSlot_reserved, ih]

/-- The first `n` slots hold `b`, the others what they held. -/
theorem fillSlots_byte (r : Report) (n : Nat) (b : Byte) {k : Nat} (hk : k < 6) :
    (r.fillSlots n b).byte (2 + k) = if k < n then b else r.byte (2 + k) := by
  induction n with
  | zero => rfl
  | succ n ih =>
    rw [fillSlots_succ, setSlot_byte _ _ _ _ hk, ih]
    split_ifs <;> first | rfl | omega

/-- A report is its eight bytes. -/
theorem Report.ext_byte {r r' : Report} (h0 : r.modifiers = r'.modifiers) (h1 : r.reserved = r'.reserved)
    (h : ∀ k < 6, r.byte (2 + k) = r'.byte (2 + k)) : r = r' := by
  have e0 := h 0 (by decide); have e1 := h 1 (by decide); have e2 := h 2 (by decide)
  have e3 := h 3 (by decide); have e4 := h 4 (by decide); have e5 := h 5 (by decide)
  cases r; cases r'; simp_all [Report.byte]

theorem slotsOf_byte (m : Byte) (h : List Nat) {k : Nat} (hk : k < 6) :
    (slotsOf m h).byte (2 + k) = BitVec.ofNat 8 (h[k]?.getD 0) := by
  interval_cases k <;> rfl

theorem reportOf_byte (c : Config) (km : Matrix) {k : Nat} (hk : k < 6) :
    (reportOf c km).byte (2 + k) = slotByte c (heldKeys km) k := by
  interval_cases k <;> rfl

theorem mem_heldKeys {km : Matrix} {i : Nat} :
    i ∈ heldKeys km ↔ ((1 ≤ i ∧ i ≤ 0xDF) ∨ (0xE8 ≤ i ∧ i ≤ 0xFF)) ∧ km.getLsbD i = true := by
  simp only [heldKeys, List.mem_filter, List.mem_range, slotKey, Bool.and_eq_true, decide_eq_true_eq]
  constructor
  · rintro ⟨h, h1, h2⟩; exact ⟨by omega, h2⟩
  · rintro ⟨h, h2⟩; exact ⟨by omega, by omega, h2⟩

theorem heldKeys_sorted (km : Matrix) : (heldKeys km).Pairwise (· < ·) :=
  List.Pairwise.filter _ List.pairwise_lt_range

end Sys2Proof.Machine
end

