-- ==== Sys2Proof/Laws/Step.lean ====
section
/-! SUPPORT. What a selector of FG runs, and the cases of a step. -/

namespace Sys2Proof.Machine

/-! ### The rows without an operand -/

theorem runs_rxStale (s : State) : runSelector (.invoked .rxStale 0) s = execRxStale s := rfl
theorem runs_rxStep (s : State) : runSelector (.invoked .rxStep 0) s = execRxStep s := rfl
theorem runs_qPop (s : State) : runSelector (.invoked .qPop 0) s = execQPop s := rfl
theorem runs_replyNone (s : State) : runSelector (.invoked .replyNone 0) s = execReplyNone s := rfl
theorem runs_report8 (s : State) : runSelector (.invoked .report8 0) s = execReport8 s := rfl
theorem runs_txWaitIdle (s : State) : runSelector (.invoked .txWaitIdle 0) s = execTxWaitIdle s := rfl
theorem runs_txSettle (s : State) : runSelector (.invoked .txSettle 0) s = execTxSettle s := rfl
theorem runs_txInhibit (s : State) : runSelector (.invoked .txInhibit 0) s = execTxInhibit s := rfl
theorem runs_txStart (s : State) : runSelector (.invoked .txStart 0) s = execTxStart s := rfl
theorem runs_txWaitLow (s : State) : runSelector (.invoked .txWaitLow 0) s = execTxWaitLow s := rfl
theorem runs_txWaitHigh (s : State) : runSelector (.invoked .txWaitHigh 0) s = execTxWaitHigh s := rfl
theorem runs_txAckWaitLow (s : State) : runSelector (.invoked .txAckWaitLow 0) s = execTxAckWaitLow s := rfl
theorem runs_txAckWaitRelease (s : State) : runSelector (.invoked .txAckWaitRelease 0) s = execTxAckWaitRelease s := rfl
theorem runs_txSucceed (s : State) : runSelector (.invoked .txSucceed 0) s = execTxSucceed s := rfl
theorem runs_rBuild (s : State) : runSelector (.invoked .rBuild 0) s = execRBuild s := rfl
theorem runs_rDeliver (s : State) : runSelector (.invoked .rDeliver 0) s = execRDeliver s := rfl
theorem runs_rDeliverReq (s : State) : runSelector (.invoked .rDeliverReq 0) s = execRDeliverReq s := rfl
theorem runs_sStartup (s : State) : runSelector (.invoked .sStartup 0) s = execSStartup s := rfl
theorem runs_sLed (s : State) : runSelector (.invoked .sLed 0) s = execSLed s := rfl
theorem runs_sResend (s : State) : runSelector (.invoked .sResend 0) s = execSResend s := rfl
theorem runs_sLoop (s : State) : runSelector (.invoked .sLoop 0) s = execSLoop s := rfl
theorem runs_sSleep (s : State) : runSelector (.invoked .sSleep 0) s = execSSleep s := rfl
theorem runs_lineInit (s : State) : runSelector (.invoked .lineInit 0) s = execLineInit s := rfl

/-! ### The others -/

theorem runs_txWrite (b : Byte) (s : State) :
    runSelector (.invoked .txWrite (byteOperand b)) s = txBegin b s := by
  simp [runSelector, decode, decodeInvoked, decodeByteOperand, exec, execTxWrite]

theorem runs_sCmd (b : Byte) (s : State) :
    runSelector (.invoked .sCmd (byteOperand b)) s = execSCmd b s := by
  simp [runSelector, decode, decodeInvoked, decodeByteOperand, exec]

theorem runs_mApply {id : Byte} (h : isKeyId id = true) (rel : Bool) (s : State) :
    runSelector (.invoked .mApply (eventWord rel id)) s = execMApply id rel s := by
  simp [runSelector, decode, decodeInvoked, h, exec]

theorem runs_ledLegacy (u : Byte) (s : State) :
    runSelector (.ledLegacy (ledRemap u)) s = cmdBegin (ledRemap u) s := by
  simp [runSelector, decode, decodeLedLegacy, ledRemap_reserved, exec, execLedLegacy,
    ledLegacyByte_of_reserved (ledRemap_reserved u)]

theorem runs_command {role : CmdRole} {b : Byte} {s : State} (h : commandByte s.cfg role = some b) :
    runSelector (.cmd role b) s = exec (commandInstr role) s := by
  simp [runSelector, decode, decodeCommand, h]

/-- A popped byte run as a selector is Translate of that byte (R180). -/
theorem runs_byteClass (b : Byte) (s : State) : runSelector (.byteClass b) s = execTranslate b s := by
  cases hb : classify s.cfg b <;> simp only [runSelector, execTranslate, decode, decodeByte, hb]
  · cases s.cfg.codeSet <;> rfl
  · rfl
  · rfl
  · split
    · rename_i h; rw [h.2]; rfl
    · rfl

/-- A reply byte run as a selector: what R225 and R226 say of it. -/
theorem runs_reply (b : Byte) (s : State) :
    runSelector (.reply b) s = .next
      (if b = s.cfg.ackByte then replyAck s else if b = s.cfg.resendByte then cmdAttempt s else replyOther b s) := by
  unfold runSelector decode decodeReply
  by_cases h1 : b = s.cfg.ackByte
  · simp only [if_pos h1]; rfl
  · by_cases h2 : b = s.cfg.resendByte
    · simp only [if_neg h1, if_pos h2]; rfl
    · simp only [if_neg h1, if_neg h2]; rfl

/-- A step is the next stimulus's action, under a configuration with a meaning. -/
theorem step_of_wf {s : State} (h : s.cfg.wf = true) : step s = applyStimulus (nextStimulus s).1 (nextStimulus s).2 := by
  simp [step, machineStep, h]

theorem step_withInputs {s : State} (h : s.cfg.wf = true) (x : Stimulus) (rest : List Stimulus) :
    step (s.withInputs (x :: rest)) = applyStimulus x (s.withInputs rest) := by
  rw [step_of_wf (by simpa using h)]; rfl

theorem step_nil {s : State} (h : s.cfg.wf = true) (hi : s.env.inputs = []) :
    step s = andThen (fgStep s) (takeEdge s) := by
  rw [step_of_wf h]
  simp [nextStimulus, hi, applyStimulus]

/-- No edge where the level of `clk` did not fall. -/
theorem takeEdge_of_same {s t : State} (h : t.clk = s.clk) : takeEdge s t = .next t := by
  cases hc : s.clk <;> simp [takeEdge, h, hc]

theorem takeEdge_of_clk {s t : State} (h : s.clk = false ∨ t.clk = true) : takeEdge s t = .next t := by
  rcases h with h | h <;> simp [takeEdge, h]

/-- While the handler is suppressed an edge is lost (R130). -/
theorem execRxStep_of_suppressed {s : State} (h : s.rx.suppressed = true) : execRxStep s = .next s := by
  simp [execRxStep, rxEdge, h]

theorem takeEdge_of_suppressed {s t : State} (h : t.rx.suppressed = true) : takeEdge s t = .next t := by
  simp [takeEdge, exec, execRxStep_of_suppressed h]

end Sys2Proof.Machine
end

