-- ==== Sys2Proof/Tests/Slice0.lean ====
section
/-! SUPPORT. Tests, expected values from spec/95_test_vectors.md and the rules (the vector or rule is named at each); the smoke test of
WellFormed; the decoding of a written-out selector for every operation; a witness for the hypotheses of every statement. -/

namespace Sys2Proof.Tests

open Sys2Proof Sys2Proof.Machine

/-! ### Fixtures (95_test_vectors.md section 0) -/

/-- FIX3's primary table. -/
def table3 : Table :=
  [(0x1C, 0x04), (0x32, 0x05), (0x21, 0x06), (0x23, 0x07), (0x24, 0x08), (0x2B, 0x09), (0x34, 0x0A), (0x33, 0x0B),
   (0x12, 0xE1), (0x11, 0xE0)]

def fix3 : Config := { Config.default with set3 := { CodeSetConfig.default3 with primary := table3 } }

def fixX : Config :=
  { Config.default.useSetX with
    setX := { CodeSetConfig.defaultX with primary := [(0x1C, 0x04)], extended := [(0x75, 0x52)] } }

/-- "Reset state" under FIX3. -/
def reset3 : State := { State.reset with cfg := fix3 }

/-- "Running state". -/
def running : State :=
  { reset3 with rx := { reset3.rx with suppressed := false }, mode := .run, fg := .loopTop }

def runningX : State := { running with cfg := fixX }

/-- `s` at time `n`. -/
def at_ (n : Nat) (s : State) : State := { s with env := { s.env with msNow := n } }

/-- `s` with DEV driving the lines. -/
def lines (clkLow dataLow : Bool) (s : State) : State := setDev clkLow dataLow s

/-- `s` in a frame: bit count, data, parity, last time. -/
def inFrame (k : BitVec 4) (b : Byte) (p : Bool) (t : Nat) (s : State) : State :=
  { s with rx := { s.rx with bitCount := k, data := b, parity := p, lastBitTime := t } }

/-- `s` in a write of `b`, as the handler is in that phase. -/
def inWrite (ph : TxPhase) (b : Byte) (k : BitVec 4) (t0 : Nat) (s : State) : State :=
  { s with
    tx := { s.tx with phase := ph, byte := b, index := k, t0 := t0 }
    rx := { s.rx with suppressed := ph.suppressing } }

/-- `s` in an S.CMD. -/
def inCmd (ph : CmdPhase) (b : Byte) (n t0 : Nat) (s : State) : State :=
  { s with cmd := { s.cmd with phase := ph, byte := b, attempts := n, t0 := t0 } }

/-- `s` with the ring as given. -/
def ring (buf : Memory) (wr rd : Nat) (s : State) : State := { s with q := { buf := buf, wr := wr, rd := rd } }

/-- `s` with the keys `ids` held. -/
def held (ids : List Byte) (s : State) : State := { s with km := ids.foldl (fun km id => applyEvent id false km) 0 }

/-- The next state, if the answer is one. -/
def nextOf (o : Outcome) : Option State :=
  match o with
  | .next s => some s
  | .fault _ => none
  | .refused _ => none

def faultOf (o : Outcome) : Option Fault :=
  match o with
  | .next _ => none
  | .fault r => some r
  | .refused _ => none

def refusalOf (o : Outcome) : Option Refusal :=
  match o with
  | .next _ => none
  | .fault _ => none
  | .refused r => some r

/-- `f` of the next state of operation `i` at `s`. -/
def after {α : Type} (f : State → α) (i : Instr) (s : State) : Option α := (nextOf (exec i s)).map f

/-- `f` of the state after one step. -/
def afterStep {α : Type} (f : State → α) (s : State) : Option α := (nextOf (step s)).map f

/-! ### WellFormed: an ill-formed term for each check -/

theorem test_illformed_rxData : WellFormed fix3 (.rxData 0 true) = false ∧ WellFormed fix3 (.rxData 9 true) = false := by decide

/-- Start 1, wrong parity, stop 0 (R93). -/
theorem test_illformed_frame11 :
    WellFormed fix3 (.frame11 0b10000111001) = false ∧ WellFormed fix3 (.frame11 0b11000111000) = false ∧
    WellFormed fix3 (.frame11 0b00000111000) = false := by decide

theorem test_illformed_translator :
    WellFormed fixX .tRelease = false ∧ WellFormed fix3 .tReleaseSetX = false ∧ WellFormed fix3 (.tExt 0xE0) = false ∧
    WellFormed fixX (.tExt 0xE1) = false ∧ WellFormed fix3 .tSpecial = false ∧ WellFormed fix3 (.tKey 0xF0) = false ∧
    WellFormed fix3 (.tKey 0x1C) = false ∧ WellFormed fixX .tKey1C = false := by decide

theorem test_illformed_reply : WellFormed fix3 (.replyOther 0xFA) = false ∧ WellFormed fix3 (.replyOther 0xFE) = false := by
  decide

theorem test_illformed_cmd :
    WellFormed { fix3 with startupSeq := [] } .cmdSelectCodeSet = false ∧ WellFormed fixX .cmdDisableTypematic = false := by
  decide

theorem test_illformed_event :
    WellFormed fix3 (.event false 0x00) = false ∧ WellFormed fix3 (.event true 0xE8) = false ∧
    WellFormed fix3 (.mApply 0x00 true) = false ∧ WellFormed fix3 (.mApply 0xE8 false) = false := by decide

/-- R8, R103, R111: one ill-formed configuration for each constraint. -/
theorem test_illformed_config :
    Config.wf { fix3 with queueSlots := 32 } = false ∧ Config.wf { fix3 with cmdMaxAttempts := 0 } = false ∧
    Config.wf { fix3 with timeW := 8 } = false ∧ Config.wf { fix3 with ackByte := 0xFE } = false ∧
    CodeSetConfig.wf { CodeSetConfig.default3 with extPrefixes := [0xE0, 0xE0] } = false ∧
    CodeSetConfig.wf { CodeSetConfig.default3 with extPrefixes := [1, 2, 3] } = false ∧
    CodeSetConfig.wf { CodeSetConfig.default3 with releasePrefix := 0xE0, extPrefixes := [0xE0] } = false ∧
    CodeSetConfig.wf { CodeSetConfig.default3 with specialPrefix := some 0xF0 } = false ∧
    CodeSetConfig.wf { CodeSetConfig.default3 with extPrefixes := [0xE1], specialPrefix := some 0xE1 } = false ∧
    CodeSetConfig.wf { CodeSetConfig.default3 with specialId := 0x00 } = false ∧
    CodeSetConfig.wf { CodeSetConfig.default3 with primary := [(0x10, 0xE8)] } = false ∧
    CodeSetConfig.wf { CodeSetConfig.default3 with extended := [(0x10, 0xFF)] } = false := by decide

/-- REPORT_SLOTS outside 1..6 is ill formed (log 30); an entry at a prefix index may hold anything (R8 c, log 16). -/
theorem test_config_slots_and_prefix_entries :
    Config.wf { fix3 with reportSlots := 0 } = false ∧ Config.wf { fix3 with reportSlots := 7 } = false ∧
    Config.wf { fix3 with reportSlots := 1 } = true ∧
    CodeSetConfig.wf { CodeSetConfig.default3 with primary := [(0xF0, 0xFF)] } = true ∧
    CodeSetConfig.wf { CodeSetConfig.defaultX with extended := [(0xE1, 0xE8), (0xE0, 0xFF)] } = true := by decide

/-! ### Decoding: a selector written out for every operation -/

/-- kkkkd (R95). -/
theorem test_decode_rxsel :
    decode fix3 (.rxsel 0b00000) = .ok .rxStart ∧ decode fix3 (.rxsel 0b00001) = .ok .rxSpurious ∧
    decode fix3 (.rxsel 0b00010) = .ok (.rxData 1 false) ∧ decode fix3 (.rxsel 0b10001) = .ok (.rxData 8 true) ∧
    decode fix3 (.rxsel 0b10010) = .ok (.rxParity false) ∧ decode fix3 (.rxsel 0b10011) = .ok (.rxParity true) ∧
    decode fix3 (.rxsel 0b10101) = .ok (.rxStop true) ∧ decode fix3 (.rxsel 0b10110) = .reject .rxselUnreachable ∧
    decode fix3 (.rxsel 0b11111) = .reject .rxselUnreachable := by decide

/-- Frame(0x1C) = 0 0 0 1 1 1 0 0 0 0 1, first bit first; Frame(0xFF) = 0 1 1 1 1 1 1 1 1 1 1; start 1; parity flipped
(V-RX3); stop 0 (V-RX4). -/
theorem test_decode_frame11 :
    decode fix3 (.frame11 0b10000111000) = .ok (.frame11 0b10000111000) ∧
    decode fix3 (.frame11 0b11111111110) = .ok (.frame11 0b11111111110) ∧
    decode fix3 (.frame11 0b11111111111) = .reject .notAFrame ∧ decode fix3 (.frame11 0b11000111000) = .reject .frameParity ∧
    decode fix3 (.frame11 0b00000111000) = .reject .frameStop := by decide

/-- a = 0 acknowledged (R97). -/
theorem test_decode_lineAck :
    decode fix3 (.lineAck 0b0) = .ok (.txLineAck false) ∧ decode fix3 (.lineAck 0b1) = .ok (.txLineAck true) := by decide

theorem test_decode_byteClass :
    decode fix3 (.byteClass 0b11110000) = .ok .tRelease ∧ decode fixX (.byteClass 0b11110000) = .ok .tReleaseSetX ∧
    decode fixX (.byteClass 0b11100000) = .ok (.tExt 0xE0) ∧ decode fixX (.byteClass 0b11100001) = .ok .tSpecial ∧
    decode fix3 (.byteClass 0b11100000) = .ok (.tKey 0xE0) ∧ decode fix3 (.byteClass 0b00011100) = .ok .tKey1C ∧
    decode fixX (.byteClass 0b00011100) = .ok (.tKey 0x1C) := by decide

theorem test_decode_reply :
    decode fix3 (.reply 0b11111010) = .ok .replyAck ∧ decode fix3 (.reply 0b11111110) = .ok .replyResend ∧
    decode fix3 (.reply 0b10101010) = .ok (.replyOther 0xAA) ∧ decode fix3 (.invoked .replyNone 0) = .ok .replyNone := by decide

theorem test_decode_cmd :
    decode fix3 (.cmd .resend 0b11111110) = .ok .cmdResend ∧ decode fix3 (.cmd .setLeds 0b11101101) = .ok .cmdSetLeds ∧
    decode fix3 (.cmd .selectCodeSet 0b11110000) = .ok .cmdSelectCodeSet ∧
    decode fix3 (.cmd .disableTypematic 0b11111000) = .ok .cmdDisableTypematic ∧
    decode fixX (.cmd .disableTypematic 0b11111000) = .reject .notThatCommand ∧
    decode fix3 (.cmd .setLeds 0b11111110) = .reject .notThatCommand := by decide

/-- xxxxxscn and 00000cns (R105). -/
theorem test_decode_led :
    decode fix3 (.ledUsb 0b00000010) = .ok (.ledUsb 0x02) ∧
    decode fix3 (.ledLegacy 0b00000100) = .ok (.ledLegacy true false false) ∧
    decode fix3 (.ledLegacy 0b00000010) = .ok (.ledLegacy false true false) ∧
    decode fix3 (.ledLegacy 0b00000001) = .ok (.ledLegacy false false true) ∧
    decode fix3 (.ledLegacy 0b00001000) = .reject .ledReservedBits := by decide

/-- riiiiiiii (R102); the sentinel 00000001 (R108). -/
theorem test_decode_event_report :
    decode fix3 (.event 0b000000100) = .ok (.event false 0x04) ∧ decode fix3 (.event 0b111100111) = .ok (.event true 0xE7) ∧
    decode fix3 (.event 0b000000000) = .reject .notAKey ∧ decode fix3 (.event 0b011101000) = .reject .notAKey ∧
    decode fix3 (.report8 0b00000001) = .ok .rolloverSentinel ∧ decode fix3 (.report8 0b00000010) = .reject .notTheSentinel ∧
    decode fix3 (.invoked .report8 0) = .ok .report8 := by decide

/-- The rows selected by an event, with an operand. -/
theorem test_decode_invoked_operand :
    decode fix3 (.invoked .qPush 0b000011100) = .ok (.qPush 0x1C) ∧
    decode fix3 (.invoked .translate 0b011110000) = .ok (.translate 0xF0) ∧
    decode fix3 (.invoked .txWrite 0b011101101) = .ok (.txWrite 0xED) ∧
    decode fix3 (.invoked .sCmd 0b000000011) = .ok (.sCmd 0x03) ∧ decode fix3 (.invoked .ledIn 0b000000111) = .ok (.ledIn 0x07) ∧
    decode fix3 (.invoked .mApply 0b100000100) = .ok (.mApply 0x04 true) ∧
    decode fix3 (.invoked .mApply 0b011101000) = .reject .notAKey ∧
    decode fix3 (.invoked .txFail 0) = .ok (.txFail .busBusy) ∧ decode fix3 (.invoked .txFail 1) = .ok (.txFail .clockTimeout) ∧
    decode fix3 (.invoked .txFail 2) = .ok (.txFail .noAck) ∧ decode fix3 (.invoked .txFail 3) = .ok (.txFail .ackTimeout) ∧
    decode fix3 (.invoked .txFail 4) = .reject .operandBits ∧
    decode fix3 (.invoked .qPush 0b100011100) = .reject .operandBits := by decide

/-- The rows selected by an event, without an operand. -/
theorem test_decode_invoked_plain :
    decode fix3 (.invoked .rxStale 0) = .ok .rxStale ∧ decode fix3 (.invoked .rxStep 0) = .ok .rxStep ∧
    decode fix3 (.invoked .qPop 0) = .ok .qPop ∧ decode fix3 (.invoked .txWaitIdle 0) = .ok .txWaitIdle ∧
    decode fix3 (.invoked .txSettle 0) = .ok .txSettle ∧ decode fix3 (.invoked .txInhibit 0) = .ok .txInhibit ∧
    decode fix3 (.invoked .txStart 0) = .ok .txStart ∧ decode fix3 (.invoked .txWaitLow 0) = .ok .txWaitLow ∧
    decode fix3 (.invoked .txWaitHigh 0) = .ok .txWaitHigh ∧ decode fix3 (.invoked .txAckWaitLow 0) = .ok .txAckWaitLow ∧
    decode fix3 (.invoked .txAckWaitRelease 0) = .ok .txAckWaitRelease ∧
    decode fix3 (.invoked .txSucceed 0) = .ok .txSucceed ∧ decode fix3 (.invoked .rBuild 0) = .ok .rBuild ∧
    decode fix3 (.invoked .rDeliver 0) = .ok .rDeliver ∧ decode fix3 (.invoked .rDeliverReq 0) = .ok .rDeliverReq ∧
    decode fix3 (.invoked .sStartup 0) = .ok .sStartup ∧ decode fix3 (.invoked .sLed 0) = .ok .sLed ∧
    decode fix3 (.invoked .sResend 0) = .ok .sResend ∧ decode fix3 (.invoked .sLoop 0) = .ok .sLoop ∧
    decode fix3 (.invoked .sSleep 0) = .ok .sSleep ∧ decode fix3 (.invoked .lineInit 0) = .ok .lineInit ∧
    decode fix3 (.invoked .rxStale 1) = .reject .operandBits := by decide

/-- The table's words, bare (log 14). -/
theorem test_tableWord :
    decodeTableWord 8 0x00 = some .rxStart ∧ decodeTableWord 8 0x01 = some .rxSpurious ∧
    decodeTableWord 8 0x12 = some (.rxParity false) ∧ decodeTableWord 8 0x14 = some (.rxStop false) ∧
    decodeTableWord 8 0xF0 = some .tRelease ∧ decodeTableWord 8 0xE0 = some (.tExt 0xE0) ∧
    decodeTableWord 8 0xE1 = some .tSpecial ∧ decodeTableWord 8 0x1C = some .tKey1C ∧
    decodeTableWord 8 0xFA = some .replyAck ∧ decodeTableWord 8 0xFE = some .replyResend ∧
    decodeTableWord 8 0xED = some .cmdSetLeds ∧ decodeTableWord 8 0xF8 = some .cmdDisableTypematic ∧
    decodeTableWord 16 0b10000111000 = some (.frame11 0b10000111000) ∧
    decodeTableWord 16 0b100000100 = some (.event true 0x04) := by decide

/-- Each of them is met by the next step after reset, which goes on. -/
theorem test_fetchWord_runs :
    ∀ w ∈ [0x00, 0x01, 0x12, 0x14, 0xF0, 0xE0, 0xE1, 0x1C, 0xFA, 0xFE, 0xED, 0xF8, 0b10000111000, 0b100000100],
      (nextOf (step (State.reset.withFetchWord (if w < 256 then 8 else 16) w))).isSome = true := by decide +kernel

/-- The first word of a start bit, placed after reset, begins a frame (R132). -/
theorem test_fetchWord_rxStart :
    afterStep (fun t => t.rx.bitCount) (State.reset.withFetchWord 8 0x00) = some 1 := by decide

/-! ### Operand forms (R92, R94, R105, R84) -/

/-- Section 2.1. -/
theorem test_parity :
    parityBit 0x00 = true ∧ parityBit 0x01 = false ∧ parityBit 0x1C = false ∧ parityBit 0xED = true ∧
    parityBit 0xFE = false ∧ parityBit 0xFF = true := by decide

theorem test_frame :
    frameBits (frameOf 0x1C) = [false, false, false, true, true, true, false, false, false, false, true] ∧
    frameBits (frameOf 0x80) = [false, false, false, false, false, false, false, false, true, false, true] := by decide

/-- Section 2.7. -/
theorem test_ledRemap : [0x00, 0x01, 0x02, 0x03, 0x04].map ledRemap = [0x00, 0x02, 0x04, 0x06, 0x01] := by decide

/-- Section 2.10. -/
theorem test_elapsed :
    elapsed 32 500 601 = 101 ∧ elapsed 32 0xFFFFFFF0 0x60 = 112 ∧ elapsed 32 0xFFFFFFFF 0 = 1 ∧ elapsed 32 1000 1000 = 0 := by
  decide

/-! ### Receive path (section 2.2) -/

/-- V-RX7, third row: the start bit after a stale frame. -/
theorem test_rxStart :
    after (fun t => t.rx) .rxStart (at_ 1101 (inFrame 0 0x0C true 1000 running)) = some ⟨1, 0x00, false, 1101, false⟩ := by decide

/-- V-RX7, second row: `rx_last_bit_time` stays 1000. -/
theorem test_rxSpurious :
    after (fun t => t.rx) .rxSpurious (at_ 1101 (inFrame 0 0x0C false 1000 running)) = some ⟨0, 0x0C, false, 1000, false⟩ := by decide

/-- V-RX1, edge 3 and edge 5. -/
theorem test_rxData :
    after (fun t => t.rx) (.rxData 3 true) (at_ 2000 (inFrame 3 0x00 false 2000 running)) = some ⟨4, 0x04, true, 2000, false⟩ ∧
    after (fun t => t.rx) (.rxData 5 true) (at_ 2000 (inFrame 5 0x0C false 2000 running)) = some ⟨6, 0x1C, true, 2000, false⟩ := by
  decide

/-- V-RX1, edge 8: bit 7 is 0. -/
theorem test_rxData_last :
    after (fun t => t.rx) (.rxData 8 false) (at_ 2000 (inFrame 8 0x1C true 2000 running)) = some ⟨9, 0x1C, true, 2000, false⟩ := by decide

/-- V-RX1 and V-RX3, edge 9. -/
theorem test_rxParity :
    after (fun t => (t.rx.bitCount, t.rx.parity)) (.rxParity false) (inFrame 9 0x1C true 0 running) = some (10, true) ∧
    after (fun t => (t.rx.bitCount, t.rx.parity)) (.rxParity true) (inFrame 9 0x1C true 0 running) = some (10, false) := by decide

/-- V-RX1, edge 10. -/
theorem test_rxStop_valid :
    after (fun t => (t.q, t.resendRequest, t.out.faults)) (.rxStop true) { inFrame 10 0x1C true 2000 running with resendRequest := true } =
      some (⟨[(0, 0x1C)], 1, 0⟩, false, []) := by decide

/-- V-RX5: both faults, parity first (newest first in the log). -/
theorem test_rxStop_bothFaults :
    after (fun t => (t.q.wr, t.rx.bitCount, t.resendRequest, t.out.faults)) (.rxStop false) (inFrame 10 0x1C false 2000 running) =
      some (0, 0, true, [.framingFault 0x1C, .parityFault 0x1C]) := by decide

/-- V-RX7: 100 ms is not stale, 101 ms is. -/
theorem test_rxStale :
    after (fun t => t.rx.bitCount) .rxStale (at_ 1100 (inFrame 5 0x0C false 1000 running)) = some 5 ∧
    after (fun t => (t.rx.bitCount, t.out.faults)) .rxStale (at_ 1101 (inFrame 5 0x0C false 1000 running)) = some (0, [.staleFrame 5]) := by
  decide

/-- V-RX7, first row, through RX.STEP. -/
theorem test_rxStep :
    after (fun t => t.rx) .rxStep (at_ 1100 (inFrame 5 0x0C false 1000 running)) = some ⟨6, 0x1C, true, 1100, false⟩ := by decide

/-- V-RX9: suppressed. -/
theorem test_rxStep_suppressed :
    nextOf (exec .rxStep (inFrame 10 0x1C true 0 reset3)) = some (inFrame 10 0x1C true 0 reset3) := by decide

/-- V-RX1 as a whole frame; V-RX3. -/
theorem test_frame11 :
    after (fun t => (t.q, t.rx.data, t.rx.bitCount)) (.frame11 0b10000111000) running = some (⟨[(0, 0x1C)], 1, 0⟩, 0x1C, 0) ∧
    after (fun t => (t.q.wr, t.resendRequest, t.out.faults)) (.frame11 0b11000111000) running = some (0, true, [.parityFault 0x1C]) := by
  decide +kernel

/-- R143: the same at frame granularity in the PERIPHERAL build. -/
theorem test_frame11_peripheral :
    after (fun t => (t.q, t.rx.bitCount)) (.frame11 0b10000111000) { running with cfg := { fix3 with rxImpl := .peripheral } } =
      some (⟨[(0, 0x1C)], 1, 0⟩, 0) := by decide

/-! ### ByteQueue (section 2.3) -/

/-- V-Q3 and V-Q4. -/
theorem test_qPush :
    after (fun t => t.q) (.qPush 0x1C) (ring [] 63 5 running) = some ⟨[(63, 0x1C)], 0, 5⟩ ∧
    after (fun t => (t.q, t.out.faults)) (.qPush 0xAA) (ring [] 63 0 running) = some (⟨[], 63, 0⟩, [.queueOverflow 0xAA]) := by decide

/-- V-Q10: N = 33 is no power of two; the push at 32 wraps to 0. -/
theorem test_qPush_33 :
    after (fun t => t.q.wr) (.qPush 0x1C) (ring [] 32 5 { running with cfg := { fix3 with queueSlots := 33 } }) = some 0 := by decide

/-- V-Q8 and V-Q1. -/
theorem test_qPop :
    after (fun t => (t.popped, t.q.rd)) .qPop (ring [(63, 0x1C)] 0 63 running) = some (some 0x1C, 0) ∧
    after (fun t => (t.popped, t.q.rd)) .qPop (ring [(63, 0x1C)] 0 0 running) = some (none, 0) := by decide

/-! ### Translator (section 2.4) -/

/-- V-T2: a second release prefix. -/
theorem test_tRelease :
    after (fun t => (t.tr, t.event)) .tRelease { running with tr := ⟨true, false, false⟩ } = some (⟨true, false, false⟩, none) := by decide

/-- V-T8: the release prefix after the extended one. -/
theorem test_tReleaseSetX :
    after (fun t => (t.tr, t.event)) .tReleaseSetX { runningX with tr := ⟨false, true, false⟩ } = some (⟨true, true, false⟩, none) := by decide

/-- V-T9. -/
theorem test_tExt :
    after (fun t => (t.tr, t.event)) (.tExt 0xE0) { runningX with tr := ⟨true, false, false⟩ } = some (⟨true, true, false⟩, none) := by decide

/-- V-T12, first byte. -/
theorem test_tSpecial : after (fun t => (t.tr, t.event)) .tSpecial runningX = some (⟨false, false, true⟩, none) := by decide

/-- V-T7, V-T10. -/
theorem test_tKey :
    after (fun t => (t.tr, t.event)) (.tKey 0x75) { runningX with tr := ⟨false, true, false⟩ } = some (⟨false, false, false⟩, some (0x52, false)) ∧
    after (fun t => t.event) (.tKey 0x75) runningX = some none := by decide

/-- V-T13 and V-T14: the special flag wins over the table. -/
theorem test_tKey_special :
    after (fun t => t.event) (.tKey 0x14) { runningX with tr := ⟨true, false, true⟩ } = some (some (0x48, true)) ∧
    after (fun t => t.event) (.tKey 0x99) { runningX with tr := ⟨false, true, true⟩ } = some (some (0x48, false)) := by decide

/-- V-T1, first and third byte. -/
theorem test_tKey1C :
    after (fun t => t.event) .tKey1C running = some (some (0x04, false)) ∧
    after (fun t => (t.event, t.tr)) .tKey1C { running with tr := ⟨true, false, false⟩ } = some (some (0x04, true), ⟨false, false, false⟩) := by decide

/-- V-T4 (unmapped after release), V-T5 (0xE0 is a key byte in code set 3). -/
theorem test_translate :
    after (fun t => (t.event, t.tr)) (.translate 0x77) { running with tr := ⟨true, false, false⟩ } = some (none, ⟨false, false, false⟩) ∧
    after (fun t => (t.event, t.tr)) (.translate 0xE0) { running with tr := ⟨true, false, false⟩ } = some (none, ⟨false, false, false⟩) := by decide

/-- V-T6: the extended table has no 0x1C; V-T16. -/
theorem test_translate_setX :
    after (fun t => (t.event, t.tr)) (.translate 0x1C) { runningX with tr := ⟨false, true, false⟩ } = some (none, ⟨false, false, false⟩) ∧
    after (fun t => t.event) (.translate 0x1C) { runningX with tr := ⟨false, false, true⟩ } = some (some (0x48, false)) := by decide

/-! ### Matrix and report (sections 2.5, 2.6; R210) -/

/-- V-M2: once and twice; V-M3. -/
theorem test_mApply :
    after (fun t => t.km) (.mApply 0x04 false) running = some (0x10 : Matrix) ∧
    after (fun t => t.km) (.mApply 0x04 false) { running with km := 0x10 } = some (0x10 : Matrix) ∧
    after (fun t => t.km) (.mApply 0x04 true) { running with km := 0x10 } = some (0 : Matrix) := by decide +kernel

/-- V-M4, V-M7. -/
theorem test_mApply_edges :
    after (fun t => t.km) (.mApply 0x04 true) running = some (0 : Matrix) ∧
    after (fun t => (t.km.getLsbD 0xE7, t.km.getLsbD 0xE6)) (.mApply 0xE7 false) running = some (true, false) := by decide +kernel

/-- R102: (r, i). -/
theorem test_event : after (fun t => t.event) (.event true 0x04) running = some (some (0x04, true)) := by decide

/-- V-R1, V-R3, V-R7. -/
theorem test_report8 :
    after (fun t => t.built) .report8 (held [0xDF] running) = some ⟨0, 0, 0xDF, 0, 0, 0, 0, 0⟩ ∧
    after (fun t => t.built) .report8 (held [0xE4] running) = some ⟨0x10, 0, 0, 0, 0, 0, 0, 0⟩ ∧
    after (fun t => t.built) .report8 (held [0x10, 0x0F, 0x0E, 0x0D, 0x0C, 0x0B] running) =
      some ⟨0, 0, 0x0B, 0x0C, 0x0D, 0x0E, 0x0F, 0x10⟩ := by decide +kernel

/-- V-R4 and V-R5: six keys, seven keys, all modifiers. -/
theorem test_rBuild :
    after (fun t => t.built) .rBuild (held [0xE0, 0xE1, 0xE2, 0xE3, 0xE4, 0xE5, 0xE6, 0xE7, 4, 5, 6, 7, 8, 9] running) =
      some ⟨0xFF, 0, 4, 5, 6, 7, 8, 9⟩ ∧
    after (fun t => t.built) .rBuild (held [0xE0, 0xE1, 0xE2, 0xE3, 0xE4, 0xE5, 0xE6, 0xE7, 4, 5, 6, 7, 8, 9, 0xA] running) =
      some ⟨0xFF, 0, 1, 1, 1, 1, 1, 1⟩ := by decide +kernel

/-- R210, rows 4, 6 and 12; V-R9; R7 with two slots (log 30). -/
theorem test_rBuild_few :
    after (fun t => t.built) .rBuild (held [0xE1, 0x04] running) = some ⟨2, 0, 4, 0, 0, 0, 0, 0⟩ ∧
    after (fun t => t.built) .rBuild (held [9, 4, 7] running) = some ⟨0, 0, 4, 7, 9, 0, 0, 0⟩ ∧
    after (fun t => t.built) .rBuild (held [1] running) = some ⟨0, 0, 1, 0, 0, 0, 0, 0⟩ ∧
    after (fun t => t.built) .rBuild { held [4, 5] running with cfg := { fix3 with reportSlots := 2 } } =
      some ⟨0, 0, 4, 5, 0, 0, 0, 0⟩ ∧
    after (fun t => t.built) .rBuild { held [0xE1, 4, 5, 6] running with cfg := { fix3 with reportSlots := 2 } } =
      some ⟨2, 0, 1, 1, 0, 0, 0, 0⟩ := by decide +kernel

/-- R108: byte 0 and byte 1 are not the sentinel's. -/
theorem test_rolloverSentinel :
    after (fun t => t.built) .rolloverSentinel { running with built := ⟨2, 0, 4, 5, 6, 7, 8, 9⟩ } =
      some ⟨2, 0, 1, 1, 1, 1, 1, 1⟩ := by decide

/-- Section 2.6, "Delivery". -/
theorem test_rDeliver :
    after (fun t => t.out.reports) .rDeliver running = some [] ∧
    after (fun t => (t.out.reports, t.lastReport)) .rDeliver (held [0x04] running) =
      some ([⟨0, 0, 4, 0, 0, 0, 0, 0⟩], ⟨0, 0, 4, 0, 0, 0, 0, 0⟩) := by decide +kernel

/-- The same, on request: also in BOOT. -/
theorem test_rDeliverReq :
    after (fun t => t.out.reports) .rDeliverReq reset3 = some [⟨0, 0, 0, 0, 0, 0, 0, 0⟩] := by decide +kernel

/-! ### Write path (section 2.8) -/

/-- R151. -/
theorem test_txWrite :
    after (fun t => t.tx) (.txWrite 0xED) (at_ 7000 { running with tx := ⟨.done, 0xFE, 10, 5, true⟩ }) =
      some ⟨.waitIdle, 0xED, 0, 7000, true⟩ ∧
    faultOf (exec (.txWrite 0xED) (inWrite .waitLow 0xFE 0 0 running)) = some .reentrantWrite := by decide

/-- V-TX6: 3100 stays, 3101 fails, the lines never driven. -/
theorem test_txWaitIdle :
    after (fun t => t.tx.phase) .txWaitIdle (at_ 3100 (lines true false (inWrite .waitIdle 0xED 0 3000 running))) = some .waitIdle ∧
    after (fun t => (t.tx.phase, t.tx.result, t.out.faults)) .txWaitIdle (at_ 3101 (lines true false (inWrite .waitIdle 0xED 0 3000 running))) =
      some (.done, false, [.txFault .busBusy]) := by decide

/-- V-TX12: the condition before the deadline; V-RX11: the stale test inside the idle test. -/
theorem test_txWaitIdle_idle :
    after (fun t => t.tx.phase) .txWaitIdle (at_ 3150 (inWrite .waitIdle 0xED 0 3000 running)) = some .settle ∧
    after (fun t => (t.tx.phase, t.out.faults)) .txWaitIdle (at_ 3091 (inFrame 4 0 false 2990 (inWrite .waitIdle 0xED 0 3000 running))) =
      some (.settle, [.staleFrame 4]) := by decide

/-- V-TX11; and the mask with the re-check (R155). -/
theorem test_txSettle :
    after (fun t => (t.tx.phase, t.tx.t0, t.rx.suppressed)) .txSettle (inFrame 1 0 false 0 (inWrite .settle 0xED 0 0 running)) =
      some (.waitIdle, 0, false) ∧
    after (fun t => (t.tx.phase, t.rx.suppressed, t.drive)) .txSettle (inWrite .settle 0xED 0 0 running) =
      some (.inhibit, true, ⟨false, false⟩) := by decide

theorem test_txInhibit :
    after (fun t => (t.drive, t.tx.t0, t.tx.phase)) .txInhibit (at_ 7000 (inWrite .inhibit 0xED 0 3000 running)) =
      some (⟨true, false⟩, 7000, .start) := by decide

theorem test_txStart :
    after (fun t => (t.drive, t.tx.t0, t.tx.phase)) .txStart { inWrite .start 0xED 0 7000 running with drive := ⟨true, false⟩ } =
      some (⟨false, true⟩, 7000, .waitLow) := by decide

/-- V-TX1: pulses 1 to 10 of 0xED, `host_data_low` 0 1 0 0 1 0 0 0, 0, 0. -/
theorem test_txWaitLow :
    [0, 1, 2, 3, 4, 5, 6, 7, 8, 9].map (fun k => after (fun t => t.drive.dataLow) .txWaitLow (lines true false (inWrite .waitLow 0xED k 0 running))) =
      [some false, some true, some false, some false, some true, some false, some false, some false, some false, some false] := by decide

/-- V-TX14: the deadline across the wrap of the clock. -/
theorem test_txWaitLow_deadline :
    after (fun t => t.tx.phase) .txWaitLow (at_ 0x54 (inWrite .waitLow 0xED 0 0xFFFFFFF0 running)) = some .waitLow ∧
    after (fun t => (t.tx.phase, t.out.faults)) .txWaitLow (at_ 0x55 (inWrite .waitLow 0xED 0 0xFFFFFFF0 running)) =
      some (.done, [.txFault .clockTimeout]) := by decide

/-- R160: after pulse 9 back, after pulse 10 on. -/
theorem test_txWaitHigh :
    after (fun t => t.tx.phase) .txWaitHigh (inWrite .waitHigh 0xED 9 0 running) = some .waitLow ∧
    after (fun t => t.tx.phase) .txWaitHigh (inWrite .waitHigh 0xED 10 0 running) = some .ackWaitLow := by decide

/-- V-TX10. -/
theorem test_txWaitHigh_deadline :
    after (fun t => (t.tx.index, t.drive, t.rx.suppressed, t.out.faults)) .txWaitHigh
      { at_ 7101 (lines true false (inWrite .waitHigh 0xED 4 7000 running)) with drive := ⟨false, true⟩ } =
      some (4, ⟨false, false⟩, false, [.txFault .clockTimeout]) := by decide

/-- R97. -/
theorem test_txLineAck :
    after (fun t => t.tx.phase) (.txLineAck false) (inWrite .ackWaitLow 0xED 10 0 running) = some .ackWaitRelease ∧
    after (fun t => t.out.faults) (.txLineAck true) (inWrite .ackWaitLow 0xED 10 0 running) = some [.txFault .noAck] := by decide

/-- V-TX7, V-TX8. -/
theorem test_txAckWaitLow :
    after (fun t => t.out.faults) .txAckWaitLow (lines true false (inWrite .ackWaitLow 0xED 10 7000 running)) = some [.txFault .noAck] ∧
    after (fun t => t.out.faults) .txAckWaitLow (at_ 7101 (inWrite .ackWaitLow 0xED 10 7000 running)) = some [.txFault .ackTimeout] := by decide

/-- The poll (0,0) of section 2.8 moves on. -/
theorem test_txAckWaitLow_ack :
    after (fun t => t.tx.phase) .txAckWaitLow (lines true true (inWrite .ackWaitLow 0xED 10 7000 running)) = some .ackWaitRelease := by decide

/-- V-TX13 and the polls (1,0), (0,0) that stay. -/
theorem test_txAckWaitRelease :
    after (fun t => (t.tx.phase, t.tx.result, t.tx.index, t.rx.suppressed)) .txAckWaitRelease (at_ 7100 (inWrite .ackWaitRelease 0xED 10 7000 running)) =
      some (.done, true, 10, false) ∧
    after (fun t => t.tx.phase) .txAckWaitRelease (at_ 7000 (lines false true (inWrite .ackWaitRelease 0xED 10 7000 running))) = some .ackWaitRelease ∧
    after (fun t => t.tx.phase) .txAckWaitRelease (at_ 7000 (lines true true (inWrite .ackWaitRelease 0xED 10 7000 running))) = some .ackWaitRelease := by
  decide

/-- V-TX9. -/
theorem test_txAckWaitRelease_deadline :
    after (fun t => t.out.faults) .txAckWaitRelease (at_ 7101 (lines false true (inWrite .ackWaitRelease 0xED 10 7000 running))) =
      some [.txFault .ackTimeout] := by decide

/-- V-TX5: what every failure leaves. -/
theorem test_txFail :
    after (fun t => (t.tx.phase, t.tx.result, t.drive, t.rx.suppressed, t.out.faults)) (.txFail .clockTimeout)
      { inWrite .waitLow 0xED 0 7000 running with drive := ⟨false, true⟩ } =
      some (.done, false, ⟨false, false⟩, false, [.txFault .clockTimeout]) := by decide

theorem test_txSucceed :
    after (fun t => (t.tx.phase, t.tx.result, t.drive, t.rx.suppressed, t.out.faults)) .txSucceed
      { inWrite .ackWaitRelease 0xED 10 7000 running with drive := ⟨false, true⟩ } = some (.done, true, ⟨false, false⟩, false, []) := by decide

/-! ### Session driver (section 2.9) -/

/-- R221: the entry; V-C6: a failed write, the next attempt at once. -/
theorem test_sCmd :
    after (fun t => t.cmd) (.sCmd 0xED) running = some ⟨.send, 0xED, 1, 0, false, true⟩ ∧
    after (fun t => t.cmd) (.sCmd 0xED) (inCmd .send 0xED 1 0 { running with tx := ⟨.done, 0xED, 0, 0, false⟩ }) =
      some ⟨.send, 0xED, 2, 0, false, true⟩ := by decide

/-- V-C10: the queue before the deadline; V-C8: a key byte in the queue is taken as the reply. -/
theorem test_sCmd_poll :
    after (fun t => (t.cmd.phase, t.cmd.result, t.q.rd)) (.sCmd 0xED) (at_ 1251 (inCmd .wait 0xED 1 1000 (ring [(0, 0xFA)] 1 0 running))) =
      some (.idle, true, 1) ∧
    after (fun t => (t.cmd.attempts, t.q.rd, t.out.faults)) (.sCmd 0xED) (inCmd .wait 0xED 1 0 (ring [(0, 0x1C)] 1 0 running)) =
      some (2, 1, [.unexpectedReply 0x1C]) := by decide

/-- V-C1. -/
theorem test_replyAck :
    after (fun t => (t.cmd.phase, t.cmd.result, t.cmd.attempts)) .replyAck (inCmd .wait 0xED 1 0 running) = some (.idle, true, 1) := by decide

/-- V-C2 and V-C3: the second attempt; after the third CmdExhausted. -/
theorem test_replyResend :
    after (fun t => (t.cmd.phase, t.cmd.attempts, t.cmd.writeDue, t.out.faults)) .replyResend (inCmd .wait 0xED 1 0 running) =
      some (.send, 2, true, []) ∧
    after (fun t => (t.cmd.phase, t.cmd.attempts, t.cmd.result, t.out.faults)) .replyResend (inCmd .wait 0xED 3 0 running) =
      some (.idle, 3, false, [.cmdExhausted 0xED]) := by decide

/-- V-C4. -/
theorem test_replyOther :
    after (fun t => (t.cmd.attempts, t.out.faults)) (.replyOther 0xAA) (inCmd .wait 0xED 1 0 running) =
      some (2, [.unexpectedReply 0xAA]) := by decide

/-- V-C5: 1250 stays, 1251 expires. -/
theorem test_replyNone :
    nextOf (exec .replyNone (at_ 1250 (inCmd .wait 0xED 1 1000 running))) = some (at_ 1250 (inCmd .wait 0xED 1 1000 running)) ∧
    after (fun t => (t.cmd.attempts, t.out.faults)) .replyNone (at_ 1251 (inCmd .wait 0xED 1 1000 running)) =
      some (2, [.replyTimeout 0xED]) := by decide

/-- R104, R236: `CMD_RESEND` is a plain write. -/
theorem test_cmdResend :
    after (fun t => (t.tx.phase, t.tx.byte, t.cmd.phase)) .cmdResend running = some (.waitIdle, 0xFE, .idle) := by decide

theorem test_cmdSetLeds :
    after (fun t => (t.cmd.byte, t.cmd.attempts)) .cmdSetLeds running = some (0xED, 1) ∧
    faultOf (exec .cmdSetLeds (inCmd .wait 0xED 1 0 running)) = some .reentrantCommand := by decide

theorem test_cmdSelectCodeSet : after (fun t => (t.cmd.byte, t.cmd.attempts)) .cmdSelectCodeSet reset3 = some (0xF0, 1) := by decide

theorem test_cmdDisableTypematic : after (fun t => (t.cmd.byte, t.cmd.attempts)) .cmdDisableTypematic reset3 = some (0xF8, 1) := by decide

/-- P3, step 1. -/
theorem test_ledIn : after (fun t => (t.ledUsb, t.ledPending)) (.ledIn 0x02) running = some (0x02, true) := by decide

theorem test_ledUsb : after (fun t => (t.ledUsb, t.ledPending)) (.ledUsb 0xFF) running = some (0xFF, true) := by decide

/-- P3, step 5: CapsLock is 0x04 on the bus. -/
theorem test_ledLegacy : after (fun t => t.cmd.byte) (.ledLegacy true false false) running = some 0x04 := by decide

/-- P3, step 2; R233: the argument is not sent after an unacknowledged command. -/
theorem test_sLed :
    after (fun t => (t.ledPending, t.fg)) .sLed { running with fg := .led, ledPending := true, ledUsb := 0x02 } = some (false, .ledSend 0x02) ∧
    after (fun t => t.fg) .sLed { running with fg := .ledWait 0x02 } = some .sleep := by decide

/-- P3, steps 4 and 5. -/
theorem test_sLed_step :
    afterStep (fun t => t.cmd.byte) { running with fg := .ledArgSend 0x02 } = some 0x04 := by decide

/-- P5, step 7; P6a: RUN after the last byte. -/
theorem test_sStartup :
    after (fun t => (t.mode, t.initFailed, t.out.faults)) .sStartup (inCmd .idle 0xF0 3 0 { reset3 with fg := .startupWait 0 }) =
      some (.failed, true, [.initFatal 0xF0]) ∧
    after (fun t => t.mode) .sStartup { reset3 with fg := .startup 3 } = some .run := by decide

/-- P5, steps 1 and 2: LineInit, then the byte 0xF0. -/
theorem test_sStartup_step :
    afterStep (fun t => (t.rx.suppressed, t.fg)) reset3 = some (false, .startup 0) ∧
    afterStep (fun t => (t.cmd.byte, t.fg)) { reset3 with fg := .startup 0 } = some (0xF0, .startupWait 0) := by decide

/-- P4 and P4b: the flag is cleared only after a good write. -/
theorem test_sResend :
    after (fun t => (t.resendRequest, t.fg)) .sResend { running with fg := .resendWait, resendRequest := true, tx := ⟨.done, 0xFE, 10, 0, true⟩ } =
      some (false, .drain) ∧
    after (fun t => (t.resendRequest, t.fg)) .sResend { running with fg := .resendWait, resendRequest := true, tx := ⟨.done, 0xFE, 0, 0, false⟩ } =
      some (true, .drain) := by decide

/-- R231: in mode FAILED the loop never runs. -/
theorem test_sLoop :
    after (fun t => t.fg) .sLoop running = some .resend ∧
    nextOf (exec .sLoop { running with mode := .failed, fg := .halted }) = some { running with mode := .failed, fg := .halted } := by decide

theorem test_sSleep : nextOf (exec .sSleep running) = some running := by decide

/-- R292. -/
theorem test_lineInit :
    after (fun t => (t.drive, t.rx.suppressed)) .lineInit { reset3 with drive := ⟨true, true⟩ } = some (⟨false, false⟩, false) := by decide

/-! ### Step -/

/-- P1, step 2: the press of 0x1C reaches the matrix by the drain loop's steps. -/
theorem test_step_drain :
    afterStep (fun t => (t.popped, t.event)) { running with fg := .drain, popped := some 0x1C } = some (none, some (0x04, false)) ∧
    afterStep (fun t => (t.event, t.km)) { running with fg := .drain, event := some (0x04, false) } = some (none, (0x10 : Matrix)) := by
  decide +kernel

/-- The host's own inhibit pulls the clock low: the edge comes while the handler is masked and is lost (R300). -/
theorem test_step_inhibit :
    afterStep (fun t => (t.rx.bitCount, t.drive.clkLow)) (inCmd .send 0xED 1 0 (inWrite .inhibit 0xED 0 0 { running with fg := .ledWait 0 })) =
      some (0, true) := by decide

/-- R155 keeps tx_t0 and tests idleness before the deadline (D12): 101 ms past its start a write found idle settles, and is back in
its wait when DEV has pulled the clock low within the settle delay (log 32). -/
theorem test_write_held_off :
    let s := inCmd .send 0xED 1 0 (at_ 101 (inWrite .waitIdle 0xED 0 0 { running with fg := .ledWait 0 }))
    (nextOf (run 1 s)).map (fun t => t.tx.phase) = some .settle ∧
    (nextOf (run 4 (s.withInputs [.fg, .dev true false, .fg, .dev false false]))).map (fun t => (t.tx.phase, t.tx.t0)) =
      some (.waitIdle, 0) := by decide

/-- D15: with `maybe` the edge latched in suppression is taken once, as a start bit if data is low; with `never` not at all. -/
theorem test_spuriousEdge :
    let s : State := { lines false true running with
      fg := .resendWait, edgeLatched := true, tx := ⟨.done, 0xFE, 10, 0, true⟩ }
    let m : State := { s with cfg := { fix3 with restoreSpuriousEdge := .maybe } }
    afterStep (fun t => (t.rx.bitCount, t.edgeLatched)) (m.withInputs [.spuriousEdge]) = some (1, false) ∧
    (nextOf (run 2 (m.withInputs [.spuriousEdge, .spuriousEdge]))).map (fun t => t.rx.bitCount) = some 1 ∧
    afterStep (fun t => t.rx.bitCount) (s.withInputs [.spuriousEdge]) = some 0 := by decide

/-- U14, U16. -/
theorem test_step_refused :
    refusalOf (step { running with cfg := { fix3 with queueSlots := 32 } }) = some .illFormedConfig ∧
    refusalOf (exec .rxStep { running with cfg := { fix3 with rxImpl := .peripheral } }) = some .peripheralBitLevel ∧
    refusalOf (exec .rxStep (inFrame 11 0 false 0 running)) = some .selectorRejected := by decide

/-! ### Witnesses: for every statement with hypotheses, a concrete state and operands that meet them; one for each clause, at
the ends of its range -/

/-- One byte 0x1C queued, FG in the drain loop. -/
def keyWaiting : State := { ring [(0, 0x1C)] 1 0 running with fg := .drain }

/-- A ring with 63 bytes in its 64 cells. -/
def fullRing : State := ring [(0, 0x1C)] 63 0 running

def peripheral : State := { running with cfg := { fix3 with rxImpl := .peripheral } }

/-- The write of the resend command just ended, an edge latched in its suppression; `maybe` as configured. -/
def restored : State :=
  { running with
    cfg := { fix3 with restoreSpuriousEdge := .maybe }, fg := .resendWait, edgeLatched := true, tx := ⟨.done, 0xFE, 10, 0, true⟩ }

/-- FG asleep for ever after a failed startup. -/
def failed3 : State := { running with mode := .failed, fg := .halted }

theorem matrixInv_empty (c : Config) (s : State) (hk : s.km = 0) (he : s.event = none) (ht : s.tr.special = false) (_ : s.cfg = c) :
    MatrixInv s :=
  { bit_zero := by rw [hk]; decide
    bits_high := fun i _ => by rw [hk]; simp
    event_key := fun e h => by rw [he] at h; cases h
    special_absent := fun _ => ht }

theorem inv_keyWaiting : Inv keyWaiting :=
  { cfg_wf := by decide
    line := ⟨by decide, by decide, by decide, by decide⟩
    queue := ⟨by decide, by decide, by decide, by decide⟩
    matrix := matrixInv_empty fix3 _ rfl rfl rfl rfl
    control := ⟨by decide, by decide, by decide, by decide, by decide, by decide, by decide, by decide,
      by decide, by decide, fun _ h => by cases h⟩
    index := ⟨by decide, by decide, by decide, by decide⟩
    time := ⟨by decide, by decide, by decide, by decide⟩
    report := ⟨by decide, by decide⟩ }

theorem inv_failed3 : Inv failed3 :=
  { cfg_wf := by decide
    line := ⟨by decide, by decide, by decide, by decide⟩
    queue := ⟨by decide, by decide, by decide, by decide⟩
    matrix := matrixInv_empty fix3 _ rfl rfl rfl rfl
    control := ⟨by decide, by decide, by decide, by decide, by decide, by decide, by decide, by decide,
      by decide, by decide, fun _ h => by cases h⟩
    index := ⟨by decide, by decide, by decide, by decide⟩
    time := ⟨by decide, by decide, by decide, by decide⟩
    report := ⟨by decide, by decide⟩ }

/-- Ring of 33 cells, one attempt, nine bits of time: the least values R8 allows. -/
theorem witness_ResetMeetsTheInvariant :
    Config.wf { fix3 with queueSlots := 33, cmdMaxAttempts := 1, timeW := 9 } = true ∧ fixX.wf = true := by decide

theorem witness_EveryStepKeepsTheInvariant : Inv keyWaiting ∧ (nextOf (step keyWaiting)).isSome = true :=
  ⟨inv_keyWaiting, by decide⟩

theorem witness_EdgeBuildNeverStops : Inv keyWaiting ∧ keyWaiting.cfg.rxImpl = .edge := ⟨inv_keyWaiting, rfl⟩

/-- In mode FAILED, with a byte queued from the wire. -/
theorem witness_NothingIsTranslatedOutsideRun :
    (Inv failed3 ∧ Cold failed3 ∧ failed3.mode = .failed ∧
     (nextOf (step (failed3.withInputs [.frame (frameOf 0x1C)]))).isSome = true) ∧
    (failed3.cfg.wf = true ∧ failed3.foregroundFree ∧ failed3.env.inputs = [] ∧ failed3.fg = .halted) :=
  ⟨⟨inv_failed3, fun _ => ⟨rfl, rfl, rfl⟩, rfl, by decide +kernel⟩, by decide, ⟨by decide, by decide, by decide⟩, rfl, rfl⟩

theorem witness_ModeMovesOnlyOutOfBoot :
    (Inv keyWaiting ∧ (nextOf (step keyWaiting)).isSome = true ∧ keyWaiting.mode = .run) ∧
    (Inv failed3 ∧ (nextOf (step failed3)).isSome = true ∧ failed3.mode = .failed) :=
  ⟨⟨inv_keyWaiting, by decide, rfl⟩, inv_failed3, by decide, rfl⟩

theorem witness_OnlyAReleaseEventClearsAHeldKey :
    (held [0xE7] running).km.getLsbD 0xE7 = true ∧
    after (fun t => t.km.getLsbD 0xE7) (.mApply 0xE7 true) (held [0xE7] running) = some false := by decide +kernel

theorem witness_TheConfigurationIsNeverWritten :
    (nextOf (exec .lineInit running)).isSome = true ∧ (nextOf (step running)).isSome = true := by decide

theorem witness_TheReceiverWritesOnlyItsOwnElements :
    (ofReceiver (.rxStop true) ∧ (nextOf (exec (.rxStop true) running)).isSome = true) ∧
    (ofReceiver .rxStep ∧ (nextOf (exec .rxStep running)).isSome = true) ∧
    (ofReceiver (.frame11 0) ∧ (nextOf (exec (.frame11 0) running)).isSome = true) :=
  ⟨⟨.inl rfl, by decide⟩, ⟨.inr (.inr (.inl rfl)), by decide⟩, .inr (.inr (.inr ⟨0, rfl⟩)), by decide +kernel⟩

theorem witness_OnlyTheWritePathDrivesTheLines :
    after (fun t => t.drive) .txInhibit running ≠ some running.drive ∧ (nextOf (exec .txInhibit running)).isSome = true := by
  decide

theorem witness_TheUsbEventsAreServedInAnyOrder : running.cfg.wf = true := by decide

/-- In either code set; the byte is no prefix value of the set the entry stands in. -/
theorem witness_AReservedTableEntryIsRefused :
    let k3 : CodeSetConfig := { CodeSetConfig.default3 with primary := [(0xE0, 0xE8)] }
    let kX : CodeSetConfig := { CodeSetConfig.defaultX with extended := [(0x10, 0xFF)] }
    let c : Config := { fix3 with set3 := k3, setX := kX }
    (k3 = c.set3 ∧ ((0xE0, 0xE8) : Byte × Byte) ∈ k3.primary ∧ (0xE0 : Byte) ≠ k3.releasePrefix ∧ (0xE0 : Byte) ∉ k3.extPrefixes ∧
      k3.specialPrefix ≠ some 0xE0 ∧ 0xE7 < (0xE8 : Byte).toNat) ∧
    (kX = c.setX ∧ ((0x10, 0xFF) : Byte × Byte) ∈ kX.extended ∧ (0x10 : Byte) ≠ kX.releasePrefix ∧ (0x10 : Byte) ∉ kX.extPrefixes ∧
      kX.specialPrefix ≠ some 0x10 ∧ 0xE7 < (0xFF : Byte).toNat) := by decide

/-- FG's turn by name and with nothing listed; the selected operation. -/
theorem witness_AForegroundStepRunsTheSelectedOperation :
    running.cfg.wf = true ∧ fgFetch (running.withInputs [.wake]) = some (.invoked .sLoop 0, running.withInputs [.wake]) ∧
    fgFetch (running.withInputs []) = some (.invoked .sLoop 0, running.withInputs []) ∧
    decode running.cfg (.invoked .sLoop 0) = .ok .sLoop := by decide

theorem witness_ADrainStepTranslatesThePoppedByte :
    let s : State := { running with fg := .drain, popped := some 0x1C }
    s.cfg.wf = true ∧ s.env.inputs = [] ∧ (s.cmd.writeDue = false ∧ s.cmd.phase = .idle ∧ s.tx.phase.atRest = true) ∧
    s.fg = .drain ∧ s.popped = some 0x1C ∧ decode s.cfg (.byteClass 0x1C) = .ok .tKey1C := by decide

/-- With the byte 0xFA queued, and with none. -/
theorem witness_AReplyStepRunsTheReplyOperation :
    (let s := inCmd .wait 0xED 1 0 (ring [(0, 0xFA)] 1 0 running)
     s.cfg.wf = true ∧ s.env.inputs = [] ∧ s.cmd.writeDue = false ∧ s.cmd.phase = .wait ∧ s.tx.phase.atRest = true ∧
     s.queueHead = some 0xFA ∧ decode s.cfg (.reply 0xFA) = .ok .replyAck) ∧
    (let s := inCmd .wait 0xED 1 0 running
     s.cfg.wf = true ∧ s.env.inputs = [] ∧ s.cmd.writeDue = false ∧ s.cmd.phase = .wait ∧ s.tx.phase.atRest = true ∧
     s.queueHead = none) := by decide

/-- Suppressed; enabled with 0 and with 10 bits received. -/
theorem witness_AnEdgeStepRunsTheReceiveOperation :
    (reset3.cfg.wf = true ∧ reset3.clk = true ∧ reset3.rx.suppressed = true) ∧
    (running.cfg.wf = true ∧ running.clk = true ∧ running.rx.suppressed = false ∧ running.cfg.rxImpl = .edge ∧
     decode running.cfg (.rxsel (rxselWord (rxStale running).rx.bitCount (setDev true true running).data)) = .ok .rxStart) ∧
    (let s := inFrame 10 0x1C true 0 running
     s.clk = true ∧ s.rx.suppressed = false ∧
     decode s.cfg (.rxsel (rxselWord (rxStale s).rx.bitCount (setDev true false s).data)) = .ok (.rxStop true)) := by decide

/-- The line clause: clock already low, and clock high that stays high. The latched edge: never; delivered; delivered already;
the write's result taken up. -/
theorem witness_AnEventStepRunsItsOperation :
    (running.cfg.wf = true ∧ (lines true false running).clk = false ∧ running.clk = true) ∧
    running.cfg.restoreSpuriousEdge = .never ∧
    (restored.cfg.wf = true ∧ restored.cfg.restoreSpuriousEdge = .maybe ∧ restored.edgeLatched = true ∧
     writeJustEnded restored = true ∧ (nextOf (step (restored.withInputs [.spuriousEdge]))).isSome = true) ∧
    ({ restored with edgeLatched := false } : State).edgeLatched = false ∧
    writeJustEnded { restored with fg := .drain } = false := by decide

/-- The ends of the operand ranges. -/
theorem witness_DecodeOfEncodeIsTheOperation :
    fix3.wf = true ∧ fixX.wf = true ∧ WellFormed fix3 (.rxData 1 false) = true ∧ WellFormed fix3 (.rxData 8 true) = true ∧
    WellFormed fix3 (.mApply 0x01 false) = true ∧ WellFormed fix3 (.mApply 0xE7 true) = true ∧
    WellFormed fixX (.tExt 0xE0) = true ∧ WellFormed fixX .tSpecial = true ∧ WellFormed fix3 (.tKey 0x77) = true ∧
    WellFormed fix3 (.frame11 0b10000111000) = true := by decide

theorem witness_ADecodedSelectorIsTheEncoding : decode fix3 (.rxsel 0b00111) = .ok (.rxData 3 true) := by decide

/-- Every row at the ends of its range; 10 and 11 fall apart. -/
theorem witness_TheReceiveSelectorTable :
    decode fix3 (.rxsel (rxselWord 0 true)) = .ok .rxSpurious ∧ decode fix3 (.rxsel (rxselWord 1 true)) = .ok (.rxData 1 true) ∧
    decode fix3 (.rxsel (rxselWord 8 true)) = .ok (.rxData 8 true) ∧ decode fix3 (.rxsel (rxselWord 9 true)) = .ok (.rxParity true) ∧
    decode fix3 (.rxsel (rxselWord 10 true)) = .ok (.rxStop true) ∧
    decode fix3 (.rxsel (rxselWord 11 true)) = .reject .rxselUnreachable ∧
    decode fix3 (.rxsel (rxselWord 15 true)) = .reject .rxselUnreachable := by decide

/-- Stale at 101, not at 100, not at count 0. -/
theorem witness_AStaleFrameIsDiscarded :
    (let s := at_ 1101 (inFrame 5 0x0C false 1000 running)
     s.rx.bitCount ≠ 0 ∧ elapsed s.cfg.timeW s.rx.lastBitTime s.env.msNow > s.cfg.tStaleMs) ∧
    (let s := at_ 1100 (inFrame 5 0x0C false 1000 running)
     elapsed s.cfg.timeW s.rx.lastBitTime s.env.msNow ≤ s.cfg.tStaleMs) ∧
    (at_ 9000 running).rx.bitCount = 0 := by decide

theorem witness_AFrameIsAssembledBitByBit :
    (1 ≤ (1 : BitVec 4).toNat ∧ (1 : BitVec 4).toNat ≤ 8) ∧ (1 ≤ (8 : BitVec 4).toNat ∧ (8 : BitVec 4).toNat ≤ 8) := by decide

/-- The ring not full, and full. -/
theorem witness_AValidStopBitQueuesTheByte :
    (QueueInv running ∧ (inFrame 10 0x1C true 0 running).rx.parity = true ∧ running.queueFull = false) ∧
    (QueueInv (inFrame 10 0x1C true 0 fullRing) ∧ (inFrame 10 0x1C true 0 fullRing).rx.parity = true ∧
     (inFrame 10 0x1C true 0 fullRing).queueFull = true) :=
  ⟨⟨⟨by decide, by decide, by decide, by decide⟩, by decide, by decide⟩,
   ⟨by decide, by decide, by decide, by decide⟩, by decide, by decide⟩

/-- The three faulty pairs (d, parity). -/
theorem witness_AFaultyStopBitRequestsAResend :
    (false && (inFrame 10 0x1C true 0 running).rx.parity) = false ∧ (true && (inFrame 10 0x1C false 0 running).rx.parity) = false ∧
    (false && (inFrame 10 0x1C false 0 running).rx.parity) = false := by decide

theorem witness_TheReceiveStep :
    reset3.rx.suppressed = true ∧
    (running.rx.suppressed = false ∧ running.cfg.rxImpl = .edge ∧ running.rx.bitCount.toNat ≤ 10 ∧
     decode running.cfg (.rxsel (rxselWord (rxStale running).rx.bitCount running.data)) = .ok .rxSpurious) ∧
    (let s := inFrame 10 0x1C true 0 running
     s.rx.suppressed = false ∧ s.rx.bitCount.toNat ≤ 10 ∧
     decode s.cfg (.rxsel (rxselWord (rxStale s).rx.bitCount s.data)) = .ok (.rxStop true)) := by decide

/-- Gaps of exactly 100 ms (V-RX2); the first gap, before the frame, is free. -/
theorem witness_AGoodFrameReachesTheQueue :
    let gaps := 500 :: List.replicate 10 100
    (running.cfg.wf = true ∧ running.cfg.rxImpl = .edge) ∧ QueueInv running ∧
    (running.rx.suppressed = false ∧ running.rx.bitCount = 0 ∧ running.drive = { clkLow := false, dataLow := false } ∧
     running.env.devClkLow = false ∧ running.queueFull = false ∧ gaps.length = 11 ∧
     ∀ g ∈ gaps.tail, g ≤ running.cfg.tStaleMs) :=
  ⟨by decide, ⟨by decide, by decide, by decide, by decide⟩, by decide⟩

/-- A valid frame, an invalid one, a ring with room and a full one. -/
theorem witness_ElevenBitsAreJudgedAsAFrame :
    (running.cfg.rxImpl = .edge ∧ QueueInv running ∧ running.rx.suppressed = false ∧ running.rx.bitCount = 0) ∧
    QueueInv fullRing ∧
    ((frameOf 0x1C).getLsbD 0 = false ∧ frameValid (frameOf 0x1C) = true ∧ frameValid 0b11000111000 = false ∧
     running.queueFull = false ∧ fullRing.queueFull = true) :=
  ⟨⟨rfl, ⟨by decide, by decide, by decide, by decide⟩, by decide, by decide⟩,
   ⟨by decide, by decide, by decide, by decide⟩, by decide⟩

theorem witness_ThePeripheralContract :
    (peripheral.cfg.rxImpl = .peripheral ∧ QueueInv peripheral ∧ peripheral.rx.suppressed = false) ∧
    (frameValid (frameOf 0x1C) = true ∧ (frameOf 0x1C).getLsbD 0 = false ∧ frameValid 0b00000111000 = false) ∧
    ({ peripheral with rx := { peripheral.rx with suppressed := true } } : State).rx.suppressed = true :=
  ⟨⟨rfl, ⟨by decide, by decide, by decide, by decide⟩, rfl⟩, by decide, rfl⟩

/-- The last cell of the ring, with and without room. -/
theorem witness_PushAppendsOrDrops :
    (QueueInv fullRing ∧ (fullRing.q.wr + 1) % fullRing.cfg.queueSlots = fullRing.q.rd) ∧
    (QueueInv (ring [] 63 5 running) ∧ ((ring [] 63 5 running).q.wr + 1) % (ring [] 63 5 running).cfg.queueSlots ≠ 5) :=
  ⟨⟨⟨by decide, by decide, by decide, by decide⟩, by decide⟩, ⟨by decide, by decide, by decide, by decide⟩, by decide⟩

theorem witness_PopTakesTheOldestByte :
    (QueueInv running ∧ running.q.rd = running.q.wr) ∧
    (QueueInv (ring [(63, 0x1C)] 0 63 running) ∧ (ring [(63, 0x1C)] 0 63 running).q.rd ≠ (ring [(63, 0x1C)] 0 63 running).q.wr) :=
  ⟨⟨⟨by decide, by decide, by decide, by decide⟩, by decide⟩, ⟨by decide, by decide, by decide, by decide⟩, by decide⟩

theorem witness_TheRingHoldsAtMostNMinusOneBytes : fullRing.cfg.wf = true ∧ QueueInv fullRing ∧ fullRing.occupancy = 63 :=
  ⟨by decide, ⟨by decide, by decide, by decide, by decide⟩, by decide⟩

/-- Mapped and unmapped; by the special flag; T.KEY[0x1C]. -/
theorem witness_AKeyByteResolvesAndClearsTheFlags :
    ((Instr.tKey1C = .tKey1C ∧ (0x1C : Byte) = 0x1C) ∧ tableAt running.cfg.active.primary 0x1C = 0x04 ∧ running.tr.special = false) ∧
    (tableAt running.cfg.active.primary 0x77 = 0x00 ∧ tableAt runningX.cfg.active.extended 0x75 = 0x52) ∧
    runningX.cfg.active.specialId = 0x48 ∧
    ((0x1C : Byte) ≠ fix3.active.releasePrefix ∧ 0x1C ∉ fix3.active.extPrefixes ∧ fix3.active.specialPrefix ≠ some 0x1C) := by decide

theorem witness_TranslateDispatchesOnTheByteClass :
    decode running.cfg (.byteClass 0xF0) = .ok .tRelease ∧
    ((held [0x04] running).cfg = running.cfg ∧ (held [0x04] running).tr = running.tr) := by decide +kernel

theorem witness_TranslationRoundTrip :
    running.tr = Translator.neutral ∧ classify running.cfg 0x1C = .key ∧ tbl running.cfg false 0x1C ≠ 0x00 := by decide

/-- V-T12 and V-T13: the key byte at once, and after a release prefix; and after three prefix bytes. -/
theorem witness_TheSpecialPrefixIsSticky :
    runningX.cfg.wf = true ∧ runningX.tr = Translator.neutral ∧ runningX.cfg.active.specialPrefix = some 0xE1 ∧
    classify runningX.cfg 0x14 = .key ∧ (∀ q ∈ ([] : List Byte), classify runningX.cfg q ≠ .key) ∧
    (∀ q ∈ ([0xF0] : List Byte), classify runningX.cfg q ≠ .key) ∧
    (∀ q ∈ ([0xE0, 0xF0, 0xE1] : List Byte), classify runningX.cfg q ≠ .key) := by decide

/-- As many keys held as there are slots, and one more; with six slots and with two. -/
theorem witness_TheReportFormat :
    (running.cfg.reportSlots = 6 ∧ (heldKeys (held [1, 0xDF, 4, 5, 6, 7] running).km).length = 6 ∧
     (heldKeys (held [1, 0xDF, 4, 5, 6, 7, 8] running).km).length = 7) ∧
    (Config.wf { fix3 with reportSlots := 2 } = true ∧ (heldKeys (held [4, 5] running).km).length = 2 ∧
     (heldKeys (held [4, 5, 6] running).km).length = 3) := by
  decide +kernel

/-- Equal and not equal; the end of the drain; the delivery position. -/
theorem witness_DeliveryOnChange :
    (reportOf running.cfg running.km = running.lastReport ∧
     reportOf running.cfg (held [0x04] running).km ≠ running.lastReport) ∧
    (let s : State := { running with fg := .drain }
     s.cfg.wf = true ∧ (s.cmd.writeDue = false ∧ s.cmd.phase = .idle ∧ s.tx.phase.atRest = true) ∧ s.env.inputs = [] ∧
     s.fg = .drain ∧ s.popped = none ∧ s.event = none ∧ s.q.wr = s.q.rd) ∧
    ({ running with fg := .deliver } : State).fg = .deliver := by decide +kernel

theorem witness_AQueuedKeyByteReachesTheReport :
    Inv keyWaiting ∧ (keyWaiting.cmd.writeDue = false ∧ keyWaiting.cmd.phase = .idle ∧ keyWaiting.tx.phase.atRest = true) ∧
    (keyWaiting.fg = .drain ∧ keyWaiting.popped = none ∧ keyWaiting.event = none ∧ keyWaiting.env.inputs = [] ∧
     keyWaiting.queued = [0x1C] ∧ keyWaiting.tr = Translator.neutral ∧ keyWaiting.km = 0 ∧ keyWaiting.lastReport = Report.zero ∧
     classify keyWaiting.cfg 0x1C = .key ∧ tbl keyWaiting.cfg false 0x1C ≠ 0x00 ∧ (tbl keyWaiting.cfg false 0x1C).toNat < 0xE0) :=
  ⟨inv_keyWaiting, by decide, by decide⟩

theorem witness_AWriteStartsOnlyAtRest :
    running.tx.phase = .idle ∧ (inWrite .done 0 0 0 running).tx.phase = .done ∧
    ((inWrite .ackWaitRelease 0 10 0 running).tx.phase ≠ .idle ∧ (inWrite .ackWaitRelease 0 10 0 running).tx.phase ≠ .done) := by decide

/-- Idle; not idle at the deadline and one millisecond past it; a stale frame that RX.STALE discards first. -/
theorem witness_TheBusIdlePoll :
    (let s := inWrite .waitIdle 0xED 0 0 running
     s = rxStale s ∧ s.clk = true ∧ s.data = true ∧ s.rx.bitCount = 0) ∧
    (let s := at_ 100 (lines true false (inWrite .waitIdle 0xED 0 0 running))
     s = rxStale s ∧ s.clk = false ∧ elapsed s.cfg.timeW s.tx.t0 s.env.msNow ≤ s.cfg.tIdleMs) ∧
    (let s := at_ 101 (lines true false (inWrite .waitIdle 0xED 0 0 running))
     s = rxStale s ∧ s.clk = false ∧ elapsed s.cfg.timeW s.tx.t0 s.env.msNow > s.cfg.tIdleMs) ∧
    (let s := at_ 1101 (inFrame 5 0x0C false 1000 (inWrite .waitIdle 0xED 0 1050 running))
     (rxStale s).clk = true ∧ (rxStale s).data = true ∧ (rxStale s).rx.bitCount = 0) := by decide

theorem witness_TheHandlerIsMaskedBeforeTheLinesAreDriven :
    (let s := inWrite .settle 0xED 0 0 running
     s = rxStale s ∧ s.clk = true ∧ s.data = true ∧ s.rx.bitCount = 0) ∧
    (let s := inFrame 1 0 false 0 (inWrite .settle 0xED 0 0 running)
     s = rxStale s ∧ s.rx.bitCount ≠ 0) := by decide

/-- Each clause, at pulse 1, at pulse 10, at the deadline and past it. -/
theorem witness_AClockPulsePlacesTheNextFrameBit :
    (let s := lines true false (inWrite .waitLow 0xED 9 0 running)
     s.clk = false ∧ s.tx.index.toNat < 10) ∧
    (let s := at_ 101 (inWrite .waitLow 0xED 0 0 running)
     s.clk = true ∧ elapsed s.cfg.timeW s.tx.t0 s.env.msNow > s.cfg.tClockoutMs) ∧
    (let s := at_ 100 (inWrite .waitHigh 0xED 9 0 running)
     s.clk = true ∧ elapsed s.cfg.timeW s.tx.t0 s.env.msNow ≤ s.cfg.tClockoutMs ∧ s.tx.index.toNat < 10) ∧
    (inWrite .waitHigh 0xED 10 0 running).tx.index.toNat = 10 ∧
    (let s := at_ 101 (lines true false (inWrite .waitHigh 0xED 10 0 running))
     s.clk = false ∧ elapsed s.cfg.timeW s.tx.t0 s.env.msNow > s.cfg.tClockoutMs) ∧
    (let s := at_ 100 (lines true false (inWrite .waitHigh 0xED 10 0 running))
     s.clk = false ∧ elapsed s.cfg.timeW s.tx.t0 s.env.msNow ≤ s.cfg.tClockoutMs) := by decide

theorem witness_TheLineAcknowledgment :
    (let s := lines true true (inWrite .ackWaitLow 0xED 10 0 running); s.clk = false ∧ s.data = false) ∧
    (let s := lines true false (inWrite .ackWaitLow 0xED 10 0 running); s.clk = false ∧ s.data = true) ∧
    (let s := at_ 101 (inWrite .ackWaitLow 0xED 10 0 running)
     s.clk = true ∧ s.data = true ∧ elapsed s.cfg.timeW s.tx.t0 s.env.msNow > s.cfg.tClockoutMs) ∧
    (let s := at_ 100 (lines false true (inWrite .ackWaitRelease 0xED 10 0 running))
     ¬ (s.clk = true ∧ s.data = true) ∧ elapsed s.cfg.timeW s.tx.t0 s.env.msNow ≤ s.cfg.tClockoutMs) ∧
    (let s := at_ 101 (lines false true (inWrite .ackWaitRelease 0xED 10 0 running))
     ¬ (s.clk = true ∧ s.data = true) ∧ elapsed s.cfg.timeW s.tx.t0 s.env.msNow > s.cfg.tClockoutMs) := by decide

/-- A resend write whose last wait is past its deadline and finds the lines released. -/
def lastWait : State := at_ 101 (inWrite .ackWaitRelease 0xFE 10 0 { running with fg := .resendWait })

/-- The same, acknowledged. -/
def writeDone : State := at_ 101 { running with fg := .resendWait, edgeLatched := true, tx := ⟨.done, 0xFE, 10, 0, true⟩ }

/-- The positions of an idle loop, from the drain on. -/
def loopPos : Nat → FgPos
  | 0 => .drain
  | 1 => .deliver
  | 2 => .led
  | 3 => .loopTop
  | _ => .resend

/-- A run of FG alone: the write ends, and the loop goes round for ever. -/
def endlessRun : Nat → State
  | 0 => lastWait
  | 1 => writeDone
  | n + 2 => { writeDone with fg := loopPos (n % 5) }

theorem eq_next_of_nextOf {o : Outcome} {s : State} (h : nextOf o = some s) : o = .next s := by
  cases o <;> simp_all [nextOf]

theorem loop_step : ∀ k < 5, nextOf (step (({ writeDone with fg := loopPos k } : State).withInputs [.fg])) =
    some { writeDone with fg := loopPos ((k + 1) % 5) } := by decide +kernel

theorem runOf_endlessRun : RunOf (fun _ => .fg) endlessRun := by
  intro n
  match n with
  | 0 => exact eq_next_of_nextOf (by decide)
  | 1 => exact eq_next_of_nextOf (by decide)
  | n + 2 =>
    have h := loop_step (n % 5) (Nat.mod_lt _ (by decide))
    rw [Nat.mod_add_mod] at h
    exact eq_next_of_nextOf h

theorem inv_lastWait : Inv lastWait :=
  { cfg_wf := by decide
    line := ⟨by decide, by decide, by decide, by decide⟩
    queue := ⟨by decide, by decide, by decide, by decide⟩
    matrix := matrixInv_empty fix3 _ rfl rfl rfl rfl
    control := ⟨by decide, by decide, by decide, by decide, by decide, by decide, by decide, by decide,
      by decide, by decide, fun _ h => by cases h⟩
    index := ⟨by decide, by decide, by decide, by decide⟩
    time := ⟨by decide, by decide, by decide, by decide⟩
    report := ⟨by decide, by decide⟩ }

/-- A poll past both limits; and an infinite fair run that begins in a write. -/
theorem witness_NoPhaseOutlivesItsDeadline :
    (let s := at_ 101 (inWrite .waitLow 0xED 0 0 running)
     txSelector s.tx.phase = some (.invoked .txWaitLow 0) ∧ decode s.cfg (.invoked .txWaitLow 0) = .ok .txWaitLow ∧
     elapsed s.cfg.timeW s.tx.t0 s.env.msNow > s.cfg.tIdleMs ∧ elapsed s.cfg.timeW s.tx.t0 s.env.msNow > s.cfg.tClockoutMs) ∧
    (Inv (endlessRun 0) ∧ RunOf (fun _ => .fg) endlessRun ∧ FairToWrites (fun _ => .fg) endlessRun ∧
     (endlessRun 0).tx.phase.atRest = false) := by
  refine ⟨by decide, inv_lastWait, runOf_endlessRun, fun n => ⟨n, le_refl n, rfl, fun h => ?_⟩, by decide⟩
  match n with
  | 0 => decide
  | 1 => exact absurd h (by decide)
  | n + 2 => exact absurd h (by simp [endlessRun, writeDone, at_, TxPhase.atRest])

theorem witness_ADeviceReadsTheFrameOfTheByte :
    let s : State := { inWrite .waitLow 0xED 0 0 running with drive := ⟨false, true⟩ }
    s.cfg.wf = true ∧ s.cmd.writeDue = false ∧ s.tx.phase = .waitLow ∧ s.tx.index = 0 ∧
    s.drive = { clkLow := false, dataLow := true } ∧ s.env.devClkLow = false ∧ s.env.devDataLow = false ∧
    s.rx.suppressed = true := by decide

/-- Idle, with each row's byte and without; in the middle of a write, after a good and after a failed one; inside another S.CMD. -/
theorem witness_AnAttemptOfACommand :
    (running.cfg.wf = true ∧ running.cmd.phase = .idle ∧ running.cfg.startupSeq[0]? = some 0xF0 ∧
     running.cfg.startupSeq[2]? = some 0xF8) ∧
    (fixX.startupSeq[2]? = none ∧ ({ fix3 with startupSeq := [] } : Config).startupSeq[0]? = none) ∧
    (let s := inCmd .send 0xED 1 0 (inWrite .waitLow 0xED 3 0 running)
     s.cmd.phase = .send ∧ s.tx.phase ≠ .done) ∧
    (let s := inCmd .send 0xED 1 0 { running with tx := ⟨.done, 0xED, 10, 0, true⟩ }
     s.cmd.phase = .send ∧ s.tx.phase = .done ∧ s.tx.result = true) ∧
    (let s := inCmd .send 0xED 3 0 { running with tx := ⟨.done, 0xED, 0, 0, false⟩ }
     s.cmd.phase = .send ∧ s.tx.phase = .done ∧ s.tx.result = false) ∧
    (let s := inCmd .wait 0xED 1 0 running
     s.cmd.phase ≠ .idle ∧ s.cfg.startupSeq[0]? ≠ none ∧ s.cfg.startupSeq[2]? ≠ none) := by decide

/-- At the deadline and past it; with a byte queued and with none. -/
theorem witness_WhatAReplyDecides :
    (let s := at_ 251 (inCmd .wait 0xED 1 0 running); elapsed s.cfg.timeW s.cmd.t0 s.env.msNow > s.cfg.tReplyMs) ∧
    (let s := at_ 250 (inCmd .wait 0xED 1 0 running)
     elapsed s.cfg.timeW s.cmd.t0 s.env.msNow ≤ s.cfg.tReplyMs ∧ s.queueHead = none) ∧
    (let s := inCmd .wait 0xED 1 0 (ring [(63, 0x1C)] 0 63 running)
     QueueInv s ∧ s.cmd.phase = .wait ∧ s.queueHead = some 0x1C ∧ decode s.cfg (.reply 0x1C) = .ok (.replyOther 0x1C)) :=
  ⟨by decide, by decide, ⟨by decide, by decide, by decide, by decide⟩, by decide, by decide, by decide⟩

/-- Every position of S.LED. -/
theorem witness_TheLedCommandSequence :
    let ok := fun s : State =>
      s.cfg.wf && !s.cmd.writeDue && decide (s.cmd.phase = .idle) && s.tx.phase.atRest && decide (s.env.inputs = [])
    let led : State := { running with fg := .led, ledPending := true }
    let acked : State := { running with fg := .ledWait 0x02, cmd := { running.cmd with result := true } }
    let unacked : State := { running with fg := .ledWait 0x02 }
    (ok led = true ∧ led.fg = .led ∧ led.ledPending = true) ∧ ok { running with fg := .ledSend 0x02 } = true ∧
    (ok acked = true ∧ acked.cmd.result = true) ∧ (ok unacked = true ∧ unacked.cmd.result = false) ∧
    ok { running with fg := .ledArgSend 0x02 } = true ∧ ok { running with fg := .ledArgWait } = true := by decide

/-- Every position of S.STARTUP, the last byte's and the one past it among them. -/
theorem witness_TheStartupSequence :
    let ok := fun s : State =>
      s.cfg.wf && !s.cmd.writeDue && decide (s.cmd.phase = .idle) && s.tx.phase.atRest && decide (s.env.inputs = [])
    let acked : State := { reset3 with fg := .startupWait 2, cmd := { reset3.cmd with result := true } }
    let unacked : State := { reset3 with fg := .startupWait 0 }
    (ok reset3 = true ∧ reset3.fg = .boot) ∧
    (ok { reset3 with fg := .startup 2 } = true ∧ reset3.cfg.startupSeq[2]? = some 0xF8 ∧ reset3.cfg.startupSeq[3]? = none) ∧
    (ok acked = true ∧ acked.cmd.result = true) ∧ (ok unacked = true ∧ unacked.cmd.result = false) := by decide

/-- Every position of S.RESEND. -/
theorem witness_AResendRequestIsServedOnce :
    let ok := fun s : State =>
      s.cfg.wf && !s.cmd.writeDue && decide (s.cmd.phase = .idle) && s.tx.phase.atRest && decide (s.env.inputs = [])
    let asked : State := { running with fg := .resend, resendRequest := true }
    let quiet : State := { running with fg := .resend }
    let good : State := { running with fg := .resendWait, resendRequest := true, tx := ⟨.done, 0xFE, 10, 0, true⟩ }
    let bad : State := { running with fg := .resendWait, resendRequest := true, tx := ⟨.done, 0xFE, 0, 0, false⟩ }
    (ok asked = true ∧ asked.resendRequest = true) ∧ (ok quiet = true ∧ quiet.resendRequest = false) ∧
    ok { running with fg := .resendSend } = true ∧ (ok good = true ∧ good.tx.result = true) ∧
    (ok bad = true ∧ bad.tx.result = false) := by decide

theorem witness_AnIdleLoopIterationChangesNothing :
    (running.cfg.wf = true ∧ (running.cmd.writeDue = false ∧ running.cmd.phase = .idle ∧ running.tx.phase.atRest = true) ∧
     running.env.inputs = [] ∧ running.fg = .loopTop ∧ running.mode = .run ∧ running.resendRequest = false ∧
     running.q.wr = running.q.rd ∧ running.popped = none ∧ running.event = none ∧ running.ledPending = false ∧
     reportOf running.cfg running.km = running.lastReport) ∧ failed3.mode ≠ .run := by decide +kernel

end Sys2Proof.Tests
end

/-! Proofs. `mode` moves only inside S.STARTUP (R42): no other operation writes it, S.STARTUP writes it only at the positions
of mode BOOT, and selecting an operation never takes FG from a position of another mode to one of those. -/

namespace Sys2Proof.Machine

/-! ### An outcome that leaves a part of the state alone -/

/-- If the outcome answers a next state, the part `π` of it is as in `s`. -/
def Keeps {α : Type} (π : State → α) (s : State) (o : Outcome) : Prop := ∀ t, o = .next t → π t = π s

section
variable {α : Type} {π : State → α} {s u : State} {o : Outcome}

@[simp] theorem keeps_next : Keeps π s (.next u) ↔ π u = π s := by simp [Keeps]
@[simp] theorem keeps_fault {r : Fault} : Keeps π s (.fault r) := by simp [Keeps]
@[simp] theorem keeps_refused {r : Refusal} : Keeps π s (.refused r) := by simp [Keeps]

@[simp] theorem keeps_ite {c : Prop} [Decidable c] {o' : Outcome} :
    Keeps π s (if c then o else o') ↔ (c → Keeps π s o) ∧ (¬ c → Keeps π s o') := by
  split_ifs with h <;> simp [h]

/-- What is kept from `u` on is kept from every state that agrees with `u` on it. -/
theorem Keeps.of_eq (h : Keeps π u o) (e : π u = π s) : Keeps π s o := fun t ht => (h t ht).trans e

theorem Keeps.andThen {f : State → Outcome} (h : Keeps π s o) (hf : ∀ u, Keeps π u (f u)) :
    Keeps π s (andThen o f) := by
  intro t ht
  obtain ⟨u, hu, ht⟩ := andThen_next.mp ht
  exact (hf u t ht).trans (h u hu)

end

/-! ### The operations other than S.STARTUP -/

theorem txBegin_keeps_mode (b : Byte) (s : State) : Keeps State.mode s (txBegin b s) := by
  intro t h
  obtain ⟨-, rfl⟩ := txBegin_next h
  rfl

theorem cmdBegin_keeps_mode (b : Byte) (s : State) : Keeps State.mode s (cmdBegin b s) := by
  intro t h
  obtain ⟨-, rfl⟩ := cmdBegin_next h
  simp

theorem cmdBeginOf_keeps_mode (b : Option Byte) (s : State) : Keeps State.mode s (cmdBeginOf b s) := by
  cases b with
  | none => simp [cmdBeginOf]
  | some c => exact cmdBegin_keeps_mode c s

@[simp] theorem cmdPoll_mode (s : State) : (cmdPoll s).mode = s.mode := by
  unfold cmdPoll
  split
  · simp
  · split_ifs <;> simp

theorem execSCmd_keeps_mode (b : Byte) (s : State) : Keeps State.mode s (execSCmd b s) := by
  unfold execSCmd
  split
  · exact cmdBegin_keeps_mode b s
  · simp
  · simp

theorem execRxStop_keeps_mode (d : Bool) (s : State) : Keeps State.mode s (execRxStop d s) := by
  unfold execRxStop
  split_ifs <;> simp

theorem rxDispatch_keeps_mode (d : Bool) (s : State) : Keeps State.mode s (rxDispatch d s) := by
  unfold rxDispatch
  split_ifs
  · simp [execRxSpurious]
  · simp [execRxStart]
  · simp [execRxData]
  · simp [execRxParity]
  · exact execRxStop_keeps_mode d s
  · simp

theorem rxEdge_keeps_mode (d : Bool) (s : State) : Keeps State.mode s (rxEdge d s) := by
  unfold rxEdge
  split
  · simp
  · split
    · exact (rxDispatch_keeps_mode d (rxStale s)).of_eq (by simp)
    · simp

theorem rxEdges_keeps_mode (ds : List Bool) (s : State) : Keeps State.mode s (rxEdges ds s) := by
  induction ds generalizing s with
  | nil => simp [rxEdges]
  | cons d rest ih => exact (rxEdge_keeps_mode d s).andThen ih

theorem execFrame11_keeps_mode (w : BitVec 11) (s : State) : Keeps State.mode s (execFrame11 w s) := by
  unfold execFrame11
  split
  · exact rxEdges_keeps_mode _ s
  · unfold peripheralFrame
    split_ifs <;> simp

theorem execTranslate_keeps_mode (b : Byte) (s : State) : Keeps State.mode s (execTranslate b s) := by
  unfold execTranslate
  split
  · simp
  · simp [execTExt]
  · simp [execTSpecial]
  · simp

theorem execSLed_keeps_mode (s : State) : Keeps State.mode s (execSLed s) := by
  unfold execSLed
  split <;> simp

theorem execSResend_keeps_mode (s : State) : Keeps State.mode s (execSResend s) := by
  unfold execSResend
  split <;> simp

theorem execSLoop_keeps_mode (s : State) : Keeps State.mode s (execSLoop s) := by
  unfold execSLoop
  split <;> simp

/-- R42: S.STARTUP is the only operation that writes `mode`. -/
theorem exec_keeps_mode {i : Instr} (hi : i ≠ .sStartup) (s : State) : Keeps State.mode s (exec i s) := by
  cases i with
  | sStartup => exact absurd rfl hi
  -- the calls and sequencers, each with its lemma
  | txWrite b => exact txBegin_keeps_mode b s
  | cmdResend => exact txBegin_keeps_mode _ s
  | cmdSetLeds => exact cmdBegin_keeps_mode _ s
  | ledLegacy c n sl => exact cmdBegin_keeps_mode _ s
  | cmdSelectCodeSet => exact cmdBeginOf_keeps_mode _ s
  | cmdDisableTypematic => exact cmdBeginOf_keeps_mode _ s
  | sCmd b => exact execSCmd_keeps_mode b s
  | rxStop d => exact execRxStop_keeps_mode d s
  | rxStep => exact rxEdge_keeps_mode _ s
  | frame11 w => exact execFrame11_keeps_mode w s
  | translate b => exact execTranslate_keeps_mode b s
  | sLed => exact execSLed_keeps_mode s
  | sResend => exact execSResend_keeps_mode s
  | sLoop => exact execSLoop_keeps_mode s
  -- the polls and R.DELIVER: each branch answers next
  | txWaitIdle => simp [exec, execTxWaitIdle]
  | txSettle => simp [exec, execTxSettle]
  | txWaitLow => simp [exec, execTxWaitLow]
  | txWaitHigh => simp [exec, execTxWaitHigh]
  | txAckWaitLow => simp [exec, execTxAckWaitLow]
  | txAckWaitRelease => simp [exec, execTxAckWaitRelease]
  | rDeliver => simp [exec, execRDeliver]
  -- one shared update, with its lemma under Laws
  | rxStale => exact keeps_next.mpr (rxStale_mode s)
  | qPush b => exact keeps_next.mpr (queuePush_mode s b)
  | qPop => exact keeps_next.mpr (queueDrop_mode s)
  | txLineAck a => exact keeps_next.mpr (lineAck_mode s a)
  | replyResend => exact keeps_next.mpr (cmdAttempt_mode s)
  | replyOther b => exact keeps_next.mpr (replyOther_mode s b)
  | replyNone => exact keeps_next.mpr (replyNone_mode s)
  | rDeliverReq => exact keeps_next.mpr (deliver_mode s _)
  -- one record update that does not name the mode
  | rxStart | rxSpurious | rxData | rxParity | tRelease | tReleaseSetX | tExt | tSpecial | tKey | tKey1C | replyAck | ledUsb
  | ledIn | event | report8 | rolloverSentinel | txInhibit | txStart | txFail | txSucceed | mApply | rBuild
  | sSleep | lineInit => exact keeps_next.mpr rfl

/-- Past its own positions, those of mode BOOT, S.STARTUP does nothing. -/
theorem execSStartup_of_not_boot {s : State} (h : s.fg.modeOf ≠ .boot) : execSStartup s = .next s := by
  unfold execSStartup
  split
  case h_1 hfg | h_2 hfg | h_3 hfg => simp [hfg, FgPos.modeOf] at h
  all_goals rfl

/-- No operation moves the mode while FG stands outside the startup sequence. -/
theorem exec_keeps_mode_of_not_boot (i : Instr) {s : State} (h : s.fg.modeOf ≠ .boot) : Keeps State.mode s (exec i s) := by
  by_cases hi : i = .sStartup
  · subst hi
    simp [exec, execSStartup_of_not_boot h]
  · exact exec_keeps_mode hi s

/-! ### What FG selects next -/

/-- `t` has the mode of `s`, and its FG stands at a position of the same mode. -/
def SameMode (s t : State) : Prop := t.mode = s.mode ∧ t.fg.modeOf = s.fg.modeOf

theorem startupFetch_sameMode {i : Nat} {s : State} (h : s.fg = .startup i) : SameMode s (startupFetch i s).2 := by
  unfold startupFetch
  split
  · exact ⟨rfl, rfl⟩
  · split_ifs <;> simp [SameMode, h, FgPos.modeOf]

theorem drainFetch_sameMode {s : State} (h : s.fg = .drain) : SameMode s (drainFetch s).2 := by
  unfold drainFetch
  split
  · exact ⟨rfl, rfl⟩
  · split
    · exact ⟨rfl, rfl⟩
    · cases s.queueEmpty <;> simp [SameMode, h, FgPos.modeOf]

theorem replyFetch_sameMode (s : State) : SameMode s (replyFetch s).2 := by
  unfold replyFetch
  split <;> simp [SameMode]

/-- The position a selected operation leaves behind belongs to the mode of the position it was selected at. -/
theorem positionFetch_sameMode {s : State} {p : Selector × State} (hp : positionFetch s = some p) : SameMode s p.2 := by
  unfold positionFetch at hp
  cases hfg : s.fg with
  | startup i =>
    obtain rfl : startupFetch i s = p := by simpa [hfg] using hp
    exact startupFetch_sameMode hfg
  | drain =>
    obtain rfl : drainFetch s = p := by simpa [hfg] using hp
    exact drainFetch_sameMode hfg
  | halted => simp [hfg] at hp
  | led =>
    simp only [hfg, Option.some.injEq] at hp
    subst hp
    split <;> simp [SameMode, hfg, FgPos.modeOf]
  | _ =>
    simp only [hfg, Option.some.injEq] at hp
    subst hp
    simp [SameMode, hfg, FgPos.modeOf]

theorem fgFetch_sameMode {s : State} {p : Selector × State} (hp : fgFetch s = some p) : SameMode s p.2 := by
  unfold fgFetch at hp
  split at hp
  · obtain rfl := Option.some.inj hp
    exact ⟨rfl, rfl⟩
  · split at hp
    · obtain rfl := Option.some.inj hp
      exact ⟨rfl, rfl⟩
    · split at hp
      · obtain rfl := Option.some.inj hp
        exact ⟨rfl, rfl⟩
      · obtain rfl := Option.some.inj hp
        exact replyFetch_sameMode s
      · exact positionFetch_sameMode hp

/-! ### The step -/

theorem runSelector_keeps_mode (sel : Selector) {s : State} (h : s.fg.modeOf ≠ .boot) :
    Keeps State.mode s (runSelector sel s) := by
  unfold runSelector
  split
  · exact exec_keeps_mode_of_not_boot _ h
  · simp

theorem fgStep_keeps_mode {s : State} (h : s.fg.modeOf ≠ .boot) : Keeps State.mode s (fgStep s) := by
  unfold fgStep
  split
  next p hp =>
    obtain ⟨hmode, hfg⟩ := fgFetch_sameMode hp
    exact (runSelector_keeps_mode p.1 (hfg ▸ h)).of_eq hmode
  next => simp

/-- The interrupt of an edge leaves the mode alone (R12, R266). -/
theorem takeEdge_keeps_mode (before after : State) : Keeps State.mode after (takeEdge before after) := by
  unfold takeEdge
  split
  · exact exec_keeps_mode (by simp) after
  · simp

theorem spuriousEdge_keeps_mode (s : State) : Keeps State.mode s (spuriousEdge s) := by
  unfold spuriousEdge
  split
  · simp
  · split
    · exact (rxEdge_keeps_mode _ _).of_eq rfl
    · simp

theorem applyStimulus_keeps_mode (x : Stimulus) {s : State} (h : s.fg.modeOf ≠ .boot) :
    Keeps State.mode s (applyStimulus x s) := by
  cases x with
  | fg => exact (fgStep_keeps_mode h).andThen (takeEdge_keeps_mode s)
  | dev c d => exact (takeEdge_keeps_mode s (setDev c d s)).of_eq (setDev_mode s c d)
  | frame w => exact execFrame11_keeps_mode w s
  | ms n => exact keeps_next.mpr (advance_mode s n)
  | ledIn u => exact exec_keeps_mode (i := .ledIn u) (by simp) s
  | reportReq => exact exec_keeps_mode (i := .rDeliverReq) (by simp) s
  | wake => exact keeps_next.mpr rfl
  | spuriousEdge => exact spuriousEdge_keeps_mode s

theorem nextStimulus_sameMode (s : State) : SameMode s (nextStimulus s).2 := by
  unfold nextStimulus
  split <;> exact ⟨rfl, rfl⟩

/-- While FG stands outside the startup sequence a step leaves the mode alone. -/
theorem step_keeps_mode {s : State} (hwf : s.cfg.wf = true) (h : s.fg.modeOf ≠ .boot) : Keeps State.mode s (step s) := by
  obtain ⟨hmode, hfg⟩ := nextStimulus_sameMode s
  rw [step_of_wf hwf]
  exact (applyStimulus_keeps_mode _ (hfg ▸ h)).of_eq hmode

/-- Settles O6: outside BOOT the position is none of S.STARTUP's, by the control invariant, so the step leaves the mode. -/
theorem modeMovesOnlyOutOfBoot : Obligations.ModeMovesOnlyOutOfBoot := by
  unfold Obligations.ModeMovesOnlyOutOfBoot
  refine ⟨rfl, fun s t hinv hstep => ?_⟩
  have kept (h : s.mode ≠ .boot) : t.mode = s.mode :=
    step_keeps_mode hinv.cfg_wf (hinv.control.mode_eq ▸ h) t hstep
  exact ⟨fun hrun => (kept (by simp [hrun])).trans hrun, fun hfailed => (kept (by simp [hfailed])).trans hfailed⟩

end Sys2Proof.Machine

/-! Proofs. The ByteQueue's two operations (R62, R63), and the configuration that nothing writes (R67): no operation does, FG's
selection of the next operation writes FG's own latches and the read cursor only, the environment its inputs only. -/

namespace Sys2Proof.Machine

/-! ### The ByteQueue -/

/-- A push into a ring with room writes the one cell `q_wr`. -/
theorem queuePush_read {s : State} (h : QueueInv s) (hroom : s.queueFull = false) (b : Byte) (a : Nat) :
    (queuePush b s).q.buf.read a = if a = s.q.wr then b else s.q.buf.read a := by
  rw [queuePush_of_room hroom]
  simp only [Memory.read_write h.cells_wf, Nat.mod_eq_of_lt h.wr_lt]

/-- The first byte of a ring that is not empty stands in the cell `q_rd`. -/
theorem queueHead_of_nonempty {s : State} (h : QueueInv s) (he : s.queueEmpty = false) :
    s.queueHead = some (s.q.buf.read s.q.rd) := by
  simp [State.queueHead, he, Nat.mod_eq_of_lt h.rd_lt]

/-- Settles O32: into a full ring the push only logs; else it writes the cell `q_wr`, so the list grows at its end. -/
theorem pushAppendsOrDrops : Obligations.PushAppendsOrDrops := by
  unfold Obligations.PushAppendsOrDrops
  intro s b h
  refine ⟨queuePush b s, rfl, fun hfull => ?_, fun hne => ?_⟩
  · exact queuePush_of_full ((queueFull_iff s).mpr hfull) b
  · have hroom : s.queueFull = false := Bool.eq_false_iff.mpr (mt (queueFull_iff s).mp hne)
    have hread := queuePush_read h hroom b
    refine ⟨?_, ?_, by simp [hread], fun a ha => by simp [hread, ha], queued_push h hroom b⟩
    · rw [queuePush_of_room hroom]
    · rw [queuePush_of_room hroom]
      rfl

/-- Settles O33: the result is the byte at `q_rd`, and only the cursor `q_rd` moves, past that byte. -/
theorem popTakesTheOldestByte : Obligations.PopTakesTheOldestByte := by
  unfold Obligations.PopTakesTheOldestByte
  intro s h
  refine ⟨{ queueDrop s with popped := s.queueHead }, rfl, fun hempty => ?_, fun hne => ⟨?_, ?_⟩⟩
  · rw [queueHead_eq_none.mpr hempty.symm, queueDrop_of_empty (decide_eq_true hempty.symm)]
  · have he : s.queueEmpty = false := decide_eq_false (Ne.symm hne)
    rw [queueHead_of_nonempty h he, queueDrop_of_some he]
    rfl
  · exact queued_drop h hne

/-! ### No operation writes the configuration -/

@[simp] theorem txBegin_keeps_cfg (b : Byte) (s : State) : Keeps State.cfg s (txBegin b s) := by simp [txBegin]

@[simp] theorem cmdBegin_keeps_cfg (b : Byte) (s : State) : Keeps State.cfg s (cmdBegin b s) := by simp [cmdBegin]

@[simp] theorem cmdBeginOf_keeps_cfg (b : Option Byte) (s : State) : Keeps State.cfg s (cmdBeginOf b s) := by
  cases b <;> simp [cmdBeginOf]

@[simp] theorem cmdPoll_cfg (s : State) : (cmdPoll s).cfg = s.cfg := by
  unfold cmdPoll
  split
  · simp
  · split_ifs <;> simp

theorem execSCmd_keeps_cfg (b : Byte) (s : State) : Keeps State.cfg s (execSCmd b s) := by
  unfold execSCmd
  split <;> simp

/-- S.STARTUP ends, goes on, or calls S.CMD from the next position. -/
theorem execSStartup_keeps_cfg (s : State) : Keeps State.cfg s (execSStartup s) := by
  cases hfg : s.fg with
  | startup i =>
    simp only [execSStartup, hfg]
    split
    · exact (cmdBegin_keeps_cfg _ _).of_eq rfl
    · simp
  | _ => simp [execSStartup, hfg]

theorem rxDispatch_keeps_cfg (d : Bool) (s : State) : Keeps State.cfg s (rxDispatch d s) := by
  simp [rxDispatch, execRxSpurious, execRxStart, execRxData, execRxParity, execRxStop]

theorem rxEdge_keeps_cfg (d : Bool) (s : State) : Keeps State.cfg s (rxEdge d s) := by
  unfold rxEdge
  split
  · simp
  · split
    · exact (rxDispatch_keeps_cfg d (rxStale s)).of_eq (rxStale_cfg s)
    · simp

theorem rxEdges_keeps_cfg (ds : List Bool) (s : State) : Keeps State.cfg s (rxEdges ds s) := by
  induction ds generalizing s with
  | nil => simp [rxEdges]
  | cons d rest ih => exact (rxEdge_keeps_cfg d s).andThen ih

theorem execFrame11_keeps_cfg (w : BitVec 11) (s : State) : Keeps State.cfg s (execFrame11 w s) := by
  unfold execFrame11
  split
  · exact rxEdges_keeps_cfg _ s
  · simp [peripheralFrame]

/-- R67: no operation writes the configuration. -/
theorem exec_keeps_cfg (i : Instr) (s : State) : Keeps State.cfg s (exec i s) := by
  cases i with
  -- the receive path
  | rxStep => exact rxEdge_keeps_cfg _ s
  | frame11 w => exact execFrame11_keeps_cfg w s
  | rxStop d => simp [exec, execRxStop]
  -- the calls
  | txWrite b => exact txBegin_keeps_cfg b s
  | cmdResend => exact txBegin_keeps_cfg _ s
  | cmdSetLeds | ledLegacy => exact cmdBegin_keeps_cfg _ s
  | cmdSelectCodeSet | cmdDisableTypematic => exact cmdBeginOf_keeps_cfg _ s
  -- the sequencers and Translate, which branch on a position or a byte class
  | sCmd b => exact execSCmd_keeps_cfg b s
  | sStartup => exact execSStartup_keeps_cfg s
  | sLed => simp only [exec, execSLed]; split <;> simp
  | sResend => simp only [exec, execSResend]; split <;> simp
  | sLoop => simp only [exec, execSLoop]; split <;> simp
  | translate b => simp only [exec, execTranslate]; split <;> simp [execTExt, execTSpecial]
  -- the polls and R.DELIVER: each branch answers next
  | txWaitIdle => simp [exec, execTxWaitIdle]
  | txSettle => simp [exec, execTxSettle]
  | txWaitLow => simp [exec, execTxWaitLow]
  | txWaitHigh => simp [exec, execTxWaitHigh]
  | txAckWaitLow => simp [exec, execTxAckWaitLow]
  | txAckWaitRelease => simp [exec, execTxAckWaitRelease]
  | rDeliver => simp [exec, execRDeliver]
  -- one shared update that branches, with its lemma under Laws
  | rxStale => exact keeps_next.mpr (rxStale_cfg s)
  | qPush b => exact keeps_next.mpr (queuePush_cfg s b)
  | qPop => exact keeps_next.mpr (queueDrop_cfg s)
  | txLineAck a => exact keeps_next.mpr (lineAck_cfg s a)
  | replyResend => exact keeps_next.mpr (cmdAttempt_cfg s)
  | replyOther b => exact keeps_next.mpr (replyOther_cfg s b)
  | replyNone => exact keeps_next.mpr (replyNone_cfg s)
  | rDeliverReq => exact keeps_next.mpr (deliver_cfg s _)
  -- one record update that does not name the configuration
  | rxStart | rxSpurious | rxData | rxParity | tRelease | tReleaseSetX | tExt | tSpecial | tKey | tKey1C | replyAck | ledUsb
  | ledIn | event | report8 | rolloverSentinel | txInhibit | txStart | txFail | txSucceed | mApply | rBuild
  | sSleep | lineInit => exact keeps_next.mpr rfl

/-! ### What selecting FG's next operation writes -/

/-- From `s` to `t` only FG's own latches and position, the due call of TX.WRITE and the queue's read cursor may differ: what is
consumed with a selector. -/
def FetchFrame (s t : State) : Prop :=
  t = { s with
    cmd := { s.cmd with writeDue := t.cmd.writeDue }, q := { s.q with rd := t.q.rd },
    fg := t.fg, popped := t.popped, event := t.event }

theorem FetchFrame.cfg_eq {s t : State} (h : FetchFrame s t) : t.cfg = s.cfg := by
  unfold FetchFrame at h
  rw [h]

theorem startupFetch_frame (i : Nat) (s : State) : FetchFrame s (startupFetch i s).2 := by
  unfold startupFetch
  split
  · rfl
  · split_ifs <;> rfl

theorem drainFetch_frame (s : State) : FetchFrame s (drainFetch s).2 := by
  unfold drainFetch
  split
  · rfl
  · split <;> rfl

theorem queueDrop_frame (s : State) : FetchFrame s (queueDrop s) := by
  unfold queueDrop
  split <;> rfl

theorem replyFetch_frame (s : State) : FetchFrame s (replyFetch s).2 := by
  unfold replyFetch
  split
  · exact queueDrop_frame s
  · rfl

theorem positionFetch_frame {s : State} {p : Selector × State} (hp : positionFetch s = some p) : FetchFrame s p.2 := by
  unfold positionFetch at hp
  cases hfg : s.fg with
  | startup i =>
    obtain rfl : startupFetch i s = p := by simpa [hfg] using hp
    exact startupFetch_frame i s
  | drain =>
    obtain rfl : drainFetch s = p := by simpa [hfg] using hp
    exact drainFetch_frame s
  | halted => simp [hfg] at hp
  | led =>
    simp only [hfg, Option.some.injEq] at hp
    subst hp
    split <;> rfl
  | _ =>
    simp only [hfg, Option.some.injEq] at hp
    subst hp
    rfl

theorem fgFetch_frame {s : State} {p : Selector × State} (hp : fgFetch s = some p) : FetchFrame s p.2 := by
  unfold fgFetch at hp
  split at hp
  · obtain rfl := Option.some.inj hp
    rfl
  · split at hp
    · obtain rfl := Option.some.inj hp
      rfl
    · split at hp
      · obtain rfl := Option.some.inj hp
        rfl
      · obtain rfl := Option.some.inj hp
        exact replyFetch_frame s
      · exact positionFetch_frame hp

/-! ### No step writes the configuration -/

theorem runSelector_keeps_cfg (sel : Selector) (s : State) : Keeps State.cfg s (runSelector sel s) := by
  unfold runSelector
  split
  · exact exec_keeps_cfg _ s
  · simp

theorem fgStep_keeps_cfg (s : State) : Keeps State.cfg s (fgStep s) := by
  unfold fgStep
  split
  next p hp => exact (runSelector_keeps_cfg p.1 p.2).of_eq (fgFetch_frame hp).cfg_eq
  next => simp

theorem takeEdge_keeps_cfg (before after : State) : Keeps State.cfg after (takeEdge before after) := by
  simp [takeEdge, exec_keeps_cfg]

theorem spuriousEdge_keeps_cfg (s : State) : Keeps State.cfg s (spuriousEdge s) := by
  unfold spuriousEdge
  split
  · simp
  · split
    · exact (exec_keeps_cfg .rxStep _).of_eq rfl
    · simp

theorem applyStimulus_keeps_cfg (x : Stimulus) (s : State) : Keeps State.cfg s (applyStimulus x s) := by
  cases x with
  | fg => exact (fgStep_keeps_cfg s).andThen (takeEdge_keeps_cfg s)
  | dev c d => exact (takeEdge_keeps_cfg s (setDev c d s)).of_eq (setDev_cfg s c d)
  | frame w => exact exec_keeps_cfg (.frame11 w) s
  | ms n => exact keeps_next.mpr (advance_cfg s n)
  | ledIn u => exact exec_keeps_cfg (.ledIn u) s
  | reportReq => exact exec_keeps_cfg .rDeliverReq s
  | wake => exact keeps_next.mpr rfl
  | spuriousEdge => exact spuriousEdge_keeps_cfg s

@[simp] theorem nextStimulus_cfg (s : State) : (nextStimulus s).2.cfg = s.cfg := by
  unfold nextStimulus
  split <;> rfl

theorem step_keeps_cfg (s : State) : Keeps State.cfg s (step s) := by
  unfold step machineStep
  split
  · exact (applyStimulus_keeps_cfg _ _).of_eq (nextStimulus_cfg s)
  · simp

/-- Settles O8: every operation and every step keeps `cfg`, and a lookup reads nothing else. -/
theorem theConfigurationIsNeverWritten : Obligations.TheConfigurationIsNeverWritten := by
  unfold Obligations.TheConfigurationIsNeverWritten
  exact ⟨fun i s => exec_keeps_cfg i s, step_keeps_cfg,
    fun s t ext b hstep => congrArg (tbl · ext b) (step_keeps_cfg s t hstep)⟩

end Sys2Proof.Machine

/-! Proofs. RX.START and RX.DATA (R132, R134): the selector (rx_bit_count, d) names the operation of that bit (R95), and the
operation writes LineState only. -/

namespace Sys2Proof.Machine

/-! ### The selectors of RX.START and RX.DATA (R95) -/

theorem decode_rxselWord_zero (c : Config) (d : Bool) :
    decode c (.rxsel (rxselWord 0 d)) = .ok (if d then .rxSpurious else .rxStart) := by
  simp [decode, decodeRxsel_word]

theorem decode_rxselWord_data (c : Config) {k : BitVec 4} (d : Bool) (h1 : 1 ≤ k.toNat) (h8 : k.toNat ≤ 8) :
    decode c (.rxsel (rxselWord k d)) = .ok (.rxData k d) := by
  have h0 : k.toNat ≠ 0 := Nat.one_le_iff_ne_zero.mp h1
  simp only [decode, decodeRxsel_word, h0, h8, if_false, if_true]

/-! ### The byte and the count after data bit `k` (R134) -/

/-- Data bits arrive LSB first: accepting the `k`-th sets bit `k - 1`. -/
theorem setBit_dataBit (b : Byte) {k : Nat} (d : Bool) (hk : 1 ≤ k) {j : Nat} (hj : j < 8) :
    (setBit b (k - 1) d).getLsbD j = if j + 1 = k then d else b.getLsbD j := by
  have hjk : j = k - 1 ↔ j + 1 = k := by omega
  simp only [setBit_bit b (k - 1) d hj, hjk]

/-- The count of an accepted data bit does not wrap. -/
theorem bitCount_succ_toNat {k : BitVec 4} (h8 : k.toNat ≤ 8) : (k + 1).toNat = k.toNat + 1 :=
  BitVec.toNat_add_of_lt (Nat.lt_of_le_of_lt (Nat.succ_le_succ h8) (by decide))

/-- Settles O24: each selector decodes to its operation, which answers the state with `rx` rewritten; the byte is read bit by
bit through `setBit`, the count is below its width. -/
theorem aFrameIsAssembledBitByBit : Obligations.AFrameIsAssembledBitByBit := by
  unfold Obligations.AFrameIsAssembledBitByBit
  constructor
  · intro s
    exact ⟨decode_rxselWord_zero s.cfg false, _, rfl, rfl, rfl, rfl, rfl, rfl, rfl⟩
  · intro s k d h1 h8
    exact ⟨decode_rxselWord_data s.cfg d h1 h8, _, rfl, rfl, fun _ hj => setBit_dataBit s.rx.data d h1 hj, rfl, rfl,
      bitCount_succ_toNat h8, rfl⟩

end Sys2Proof.Machine

/-! Proofs. The Scan-Code Translator (R180, R185, R186): Translate(b) is the operation of b's class, and every such operation
reads the configuration, the flags and b, and writes the flags and the result. -/

namespace Sys2Proof.Machine

/-! ### The operation of a byte class (R180) -/

/-- The operation that translates `b` when its class is `k`. -/
def classInstr (b : Byte) (k : ByteClass) : Instr :=
  match k with
  | .release => .tRelease
  | .extended => .tExt b
  | .special => .tSpecial
  | .key => .tKey b

theorem exec_translate (b : Byte) (s : State) :
    exec (.translate b) s = exec (classInstr b (classify s.cfg b)) s := by
  simp only [exec, execTranslate]
  cases classify s.cfg b <;> rfl

theorem classify_eq_key {c : Config} {b : Byte} (hrel : b ≠ c.active.releasePrefix) (hext : b ∉ c.active.extPrefixes)
    (hspec : c.active.specialPrefix ≠ some b) : classify c b = .key := by
  simp only [classify, hrel, hext, hspec, if_false]

/-! ### What such an operation reads and writes -/

theorem keyIdOf_congr {s u : State} (hcfg : u.cfg = s.cfg) (htr : u.tr = s.tr) (b : Byte) : keyIdOf u b = keyIdOf s b := by
  simp only [keyIdOf, hcfg, htr]

/-- States that agree on the configuration and the flags get the same flags and the same result, and nothing else is written. -/
theorem exec_classInstr_reads_cfg_tr (b : Byte) (k : ByteClass) (s : State) :
    ∃ tr event, ∀ u : State, u.cfg = s.cfg → u.tr = s.tr →
      exec (classInstr b k) u = .next { u with tr := tr, event := event } := by
  cases k with
  | release => exact ⟨{ s.tr with release := true }, none, fun u _ htr => by rw [← htr]; rfl⟩
  | extended => exact ⟨{ s.tr with extended := true }, none, fun u _ htr => by rw [← htr]; rfl⟩
  | special => exact ⟨{ s.tr with special := true }, none, fun u _ htr => by rw [← htr]; rfl⟩
  | key =>
    refine ⟨.neutral, if keyIdOf s b = 0x00 then none else some (keyIdOf s b, s.tr.release), fun u hcfg htr => ?_⟩
    rw [← keyIdOf_congr hcfg htr, ← htr]
    rfl

/-- The same of Translate(b), whose class is read from the configuration. -/
theorem exec_translate_reads_cfg_tr (b : Byte) (s : State) :
    ∃ tr event, ∀ u : State, u.cfg = s.cfg → u.tr = s.tr →
      exec (.translate b) u = .next { u with tr := tr, event := event } := by
  obtain ⟨tr, event, h⟩ := exec_classInstr_reads_cfg_tr b (classify s.cfg b) s
  refine ⟨tr, event, fun u hcfg htr => ?_⟩
  have hclass : classify u.cfg b = classify s.cfg b := by rw [hcfg]
  rw [exec_translate, hclass]
  exact h u hcfg htr

theorem exec_translate_of_decode {s : State} {b : Byte} {i : Instr} (h : decode s.cfg (.byteClass b) = .ok i) :
    exec (.translate b) s = exec i s := by
  have hrun := runs_byteClass b s
  simp only [runSelector, h] at hrun
  exact hrun.symm

/-- Settles O37: the dispatch follows the branches of `classify`, and the operation reached reads `cfg`, `tr` and b only. -/
theorem translateDispatchesOnTheByteClass : Obligations.TranslateDispatchesOnTheByteClass := by
  unfold Obligations.TranslateDispatchesOnTheByteClass
  intro s b
  obtain ⟨tr, event, h⟩ := exec_translate_reads_cfg_tr b s
  refine ⟨?_, fun i => exec_translate_of_decode, ⟨_, h s rfl rfl, rfl⟩,
    fun u hcfg htr => ⟨_, _, h s rfl rfl, h u hcfg htr, rfl, rfl⟩⟩
  rw [exec_translate, classify]
  split_ifs <;> rfl

/-! ### Key bytes (R185, R186) -/

theorem exec_keyInstr {i : Instr} {b : Byte} (h : i = .tKey b ∨ (i = .tKey1C ∧ b = 0x1C)) (s : State) :
    exec i s = .next (translateKey b s) := by
  obtain rfl | ⟨rfl, rfl⟩ := h <;> rfl

/-- Settles O36: both rows are `translateKey`, whose identifier is the one named, and a byte of class key gets to it. -/
theorem aKeyByteResolvesAndClearsTheFlags : Obligations.AKeyByteResolvesAndClearsTheFlags := by
  unfold Obligations.AKeyByteResolvesAndClearsTheFlags
  intro s i b id hi hid
  have hkey : keyIdOf s b = id := hid.symm
  refine ⟨⟨translateKey b s, exec_keyInstr hi s, rfl, fun hnone => ?_, fun hsome => ?_⟩, fun hrel hext hspec => ?_⟩
  · rw [translateKey_event, hkey, if_pos hnone]
  · rw [translateKey_event, hkey, if_neg hsome]
  · rw [exec_translate, classify_eq_key hrel hext hspec, exec_keyInstr hi]
    rfl

end Sys2Proof.Machine

/-! Proofs. M.APPLY (R201): the event rule writes one bit of the matrix, and an event already applied finds that bit right. -/

namespace Sys2Proof.Machine

/-- A bit that is not `rel` is already right: nothing is flipped. -/
theorem applyEvent_of_ne {id : Byte} {rel : Bool} {km : Matrix} (h : km.getLsbD id.toNat ≠ rel) :
    applyEvent id rel km = km :=
  if_neg h

theorem applyEvent_bit_same (id : Byte) (rel : Bool) (km : Matrix) :
    (applyEvent id rel km).getLsbD id.toNat = !rel := by
  rw [applyEvent_bit id rel km id.isLt, if_pos rfl]

theorem applyEvent_idem (id : Byte) (rel : Bool) (km : Matrix) :
    applyEvent id rel (applyEvent id rel km) = applyEvent id rel km := by
  have hbit : (applyEvent id rel km).getLsbD id.toNat ≠ rel := by
    rw [applyEvent_bit_same]
    exact Bool.not_ne_self rel
  exact applyEvent_of_ne hbit

theorem exec_mApply (id : Byte) (rel : Bool) (s : State) :
    exec (.mApply id rel) s = .next { s with km := applyEvent id rel s.km } := rfl

/-- Settles O40: M.APPLY writes `applyEvent` to the matrix alone, whose bits are `applyEvent_bit`; an applied event finds
its bit already right. -/
theorem anEventSetsItsMatrixBit : Obligations.AnEventSetsItsMatrixBit := by
  unfold Obligations.AnEventSetsItsMatrixBit
  intro s id rel
  refine ⟨_, exec_mApply id rel s, rfl, fun hne => ?unchanged, fun j hj => applyEvent_bit id rel s.km hj, ?again⟩
  case unchanged => rw [applyEvent_of_ne hne]
  case again => rw [exec_mApply, applyEvent_idem]

end Sys2Proof.Machine

/-! Proofs. The key matrix (R201, R293): M.APPLY is the only operation that writes it, and an event clears a bit only if it is a
release of that bit's key. -/

namespace Sys2Proof.Machine

/-! ### The calls that leave the matrix alone -/

@[simp] theorem txBegin_keeps_km (b : Byte) (s : State) : Keeps State.km s (txBegin b s) := by simp [txBegin]

@[simp] theorem cmdBegin_keeps_km (b : Byte) (s : State) : Keeps State.km s (cmdBegin b s) := by simp [cmdBegin]

@[simp] theorem cmdBeginOf_keeps_km (b : Option Byte) (s : State) : Keeps State.km s (cmdBeginOf b s) := by
  cases b <;> simp [cmdBeginOf]

@[simp] theorem cmdPoll_km (s : State) : (cmdPoll s).km = s.km := by
  unfold cmdPoll
  split
  · simp
  · split_ifs <;> simp

/-- S.STARTUP ends, goes on, or calls S.CMD from the next position. -/
theorem execSStartup_keeps_km (s : State) : Keeps State.km s (execSStartup s) := by
  cases hfg : s.fg with
  | startup i =>
    simp only [execSStartup, hfg]
    split
    · exact (cmdBegin_keeps_km _ _).of_eq rfl
    · simp
  | _ => simp [execSStartup, hfg]

/-! ### The receive path leaves the matrix alone -/

/-- What one edge keeps, a run of edges keeps. -/
theorem rxEdges_keeps {α : Type} {π : State → α} (hedge : ∀ d s, Keeps π s (rxEdge d s)) (ds : List Bool) (s : State) :
    Keeps π s (rxEdges ds s) := by
  induction ds generalizing s with
  | nil => simp [rxEdges]
  | cons d rest ih => exact (hedge d s).andThen ih

theorem rxDispatch_keeps_km (d : Bool) (s : State) : Keeps State.km s (rxDispatch d s) := by
  simp [rxDispatch, execRxSpurious, execRxStart, execRxData, execRxParity, execRxStop]

theorem rxEdge_keeps_km (d : Bool) (s : State) : Keeps State.km s (rxEdge d s) := by
  unfold rxEdge
  split
  · simp
  · split
    · exact (rxDispatch_keeps_km d (rxStale s)).of_eq (rxStale_km s)
    · simp

theorem execFrame11_keeps_km (w : BitVec 11) (s : State) : Keeps State.km s (execFrame11 w s) := by
  unfold execFrame11
  split
  · exact rxEdges_keeps rxEdge_keeps_km _ s
  · simp [peripheralFrame]

/-! ### What an operation does to the matrix -/

/-- Every operation but M.APPLY leaves the matrix as it is. -/
theorem exec_keeps_km {i : Instr} (hi : ∀ id rel, i ≠ .mApply id rel) (s : State) : Keeps State.km s (exec i s) := by
  cases i with
  | mApply id rel => exact absurd rfl (hi id rel)
  -- the receive path
  | rxStep => exact rxEdge_keeps_km _ s
  | frame11 w => exact execFrame11_keeps_km w s
  | rxStop d => simp [exec, execRxStop]
  -- the calls
  | txWrite b => exact txBegin_keeps_km b s
  | cmdResend => exact txBegin_keeps_km _ s
  | cmdSetLeds | ledLegacy => exact cmdBegin_keeps_km _ s
  | cmdSelectCodeSet | cmdDisableTypematic => exact cmdBeginOf_keeps_km _ s
  -- Translate is the operation of the byte's class, which writes the flags and the result
  | translate b =>
    obtain ⟨tr, event, h⟩ := exec_translate_reads_cfg_tr b s
    rw [h s rfl rfl]
    exact keeps_next.mpr rfl
  -- the sequencers, which branch on a position
  | sStartup => exact execSStartup_keeps_km s
  | sCmd b => simp only [exec, execSCmd]; split <;> simp
  | sLed => simp only [exec, execSLed]; split <;> simp
  | sResend => simp only [exec, execSResend]; split <;> simp
  | sLoop => simp only [exec, execSLoop]; split <;> simp
  -- the polls and R.DELIVER: each branch answers next
  | txWaitIdle => simp [exec, execTxWaitIdle]
  | txSettle => simp [exec, execTxSettle]
  | txWaitLow => simp [exec, execTxWaitLow]
  | txWaitHigh => simp [exec, execTxWaitHigh]
  | txAckWaitLow => simp [exec, execTxAckWaitLow]
  | txAckWaitRelease => simp [exec, execTxAckWaitRelease]
  | rDeliver => simp [exec, execRDeliver]
  -- one shared update, with its lemma under Laws
  | rxStale => exact keeps_next.mpr (rxStale_km s)
  | qPush b => exact keeps_next.mpr (queuePush_km s b)
  | qPop => exact keeps_next.mpr (queueDrop_km s)
  | txLineAck a => exact keeps_next.mpr (lineAck_km s a)
  | replyResend => exact keeps_next.mpr (cmdAttempt_km s)
  | replyOther b => exact keeps_next.mpr (replyOther_km s b)
  | replyNone => exact keeps_next.mpr (replyNone_km s)
  | rDeliverReq => exact keeps_next.mpr (deliver_km s _)
  -- one record update that does not name the matrix
  | rxStart | rxSpurious | rxData | rxParity | tRelease | tReleaseSetX | tExt | tSpecial | tKey | tKey1C | replyAck | ledUsb
  | ledIn | event | report8 | rolloverSentinel | txInhibit | txStart | txFail | txSucceed | rBuild
  | sSleep | lineInit => exact keeps_next.mpr rfl

/-- An operation leaves the matrix alone, or it is M.APPLY and follows the event rule (R201). -/
theorem exec_km_cases {i : Instr} {s t : State} (h : exec i s = .next t) :
    t.km = s.km ∨ ∃ id rel, i = .mApply id rel ∧ t.km = applyEvent id rel s.km := by
  by_cases hi : ∃ id rel, i = .mApply id rel
  · obtain ⟨id, rel, rfl⟩ := hi
    obtain rfl := Host.Outcome.next.inj ((exec_mApply id rel s).symm.trans h)
    exact .inr ⟨id, rel, rfl, rfl⟩
  · exact .inl (exec_keeps_km (fun id rel e => hi ⟨id, rel, e⟩) s t h)

/-- The event rule writes `not rel` into its own bit only, so the bit it clears is its own and the event is a release. -/
theorem applyEvent_clears {id : Byte} {rel : Bool} {km : Matrix} {j : Nat} (hheld : km.getLsbD j = true)
    (hfree : (applyEvent id rel km).getLsbD j = false) : id.toNat = j ∧ rel = true := by
  rw [applyEvent_bit id rel km (BitVec.lt_of_getLsbD hheld)] at hfree
  split at hfree
  next hj => exact ⟨hj.symm, by simpa using hfree⟩
  next => simp [hheld] at hfree

/-- Settles O7: a bit that moves was moved by M.APPLY, and of M.APPLY's events only a release of identifier j clears bit j. -/
theorem onlyAReleaseEventClearsAHeldKey : Obligations.OnlyAReleaseEventClearsAHeldKey := by
  unfold Obligations.OnlyAReleaseEventClearsAHeldKey
  intro i s t j hexec hheld hfree
  obtain hkm | ⟨id, rel, rfl, hkm⟩ := exec_km_cases hexec
  · rw [hkm, hheld] at hfree
    contradiction
  · obtain ⟨hid, rfl⟩ := applyEvent_clears hheld (hkm ▸ hfree)
    exact ⟨id, hid, rfl⟩

end Sys2Proof.Machine

/-! Proofs. The decoder and the encoder undo each other (R90 to R108): first the small encodings, then row by row. -/

namespace Sys2Proof.Machine

/-! ### The small encodings, put together again -/

theorem rxselWord_of_fields (w : BitVec 5) : rxselWord (w.extractLsb' 1 4) (w.getLsbD 0) = w := by
  revert w; decide

theorem ofBool_getLsbD_zero (w : BitVec 1) : BitVec.ofBool (w.getLsbD 0) = w := by
  revert w; decide

theorem byteOperand_of_low {x : BitVec 9} (h : x.getLsbD 8 = false) : byteOperand (x.extractLsb' 0 8) = x := by
  revert x; decide +kernel

theorem eventWord_of_fields (w : BitVec 9) : eventWord (eventRel w) (eventId w) = w := by
  revert w; decide +kernel

/-! ### The bytes that name a class under a configuration -/

theorem classify_releasePrefix (c : Config) : classify c c.active.releasePrefix = .release := by
  simp [classify]

theorem classify_eq_release {c : Config} {b : Byte} : classify c b = .release ↔ b = c.active.releasePrefix := by
  unfold classify
  split_ifs <;> simp_all

/-- A well-formed code set keeps its special prefix apart from the other prefixes (R8 a), so the byte is of that class. -/
theorem classify_specialPrefix {c : Config} (hwf : c.wf = true) {p : Byte} (hp : c.active.specialPrefix = some p) :
    classify c p = .special := by
  obtain ⟨hrel, hext⟩ := CodeSetConfig.specialPrefix_of_wf (Config.active_wf hwf) hp
  simp [classify, hrel, hext, hp]

theorem specialPrefix_of_classify {c : Config} {b : Byte} (h : classify c b = .special) :
    c.active.specialPrefix = some b := by
  unfold classify at h
  split_ifs at h
  assumption

/-! ### Decoding an encoding -/

theorem decode_byteRow {c : Config} (b : Byte) :
    decode c (.invoked .qPush (byteOperand b)) = .ok (.qPush b) ∧
    decode c (.invoked .translate (byteOperand b)) = .ok (.translate b) ∧
    decode c (.invoked .txWrite (byteOperand b)) = .ok (.txWrite b) ∧
    decode c (.invoked .sCmd (byteOperand b)) = .ok (.sCmd b) ∧
    decode c (.invoked .ledIn (byteOperand b)) = .ok (.ledIn b) := by
  simp [decode, decodeInvoked, decodeByteOperand]

theorem decode_command {c : Config} {role : CmdRole} (h : (commandByte c role).isSome = true) :
    decode c (.cmd role (commandByteOrZero c role)) = .ok (commandInstr role) := by
  obtain ⟨b, hb⟩ := Option.isSome_iff_exists.mp h
  simp [decode, decodeCommand, commandByteOrZero, hb]

/-- Settles O18: each row's operand fields are read back by the lemma of its format. -/
theorem decodeOfEncodeIsTheOperation : Obligations.DecodeOfEncodeIsTheOperation := by
  unfold Obligations.DecodeOfEncodeIsTheOperation
  intro c i hwf hi
  cases i with
  -- RXSEL
  | rxStart => exact decode_rxselWord_zero c false
  | rxSpurious => exact decode_rxselWord_zero c true
  | rxData k d =>
    obtain ⟨h1, h8⟩ := of_decide_eq_true hi
    exact decode_rxselWord_data c d h1 h8
  | rxParity d => simp [encode, decode, decodeRxsel_word]
  | rxStop d => simp [encode, decode, decodeRxsel_word]
  -- FRAME11
  | frame11 w =>
    have hw : frameValid w = true := hi
    simp only [frameValid, Bool.and_eq_true, Bool.not_eq_true'] at hw
    obtain ⟨⟨hstart, hparity⟩, hstop⟩ := hw
    simp only [encode, decode, decodeFrame, hstart, hparity, hstop, Bool.not_true, Bool.false_eq_true, if_false]
  | txLineAck a => cases a <;> rfl
  -- BYTECLASS
  | tRelease =>
    have hset : c.codeSet = .set3 := of_decide_eq_true hi
    simp [encode, decode, decodeByte, classify_releasePrefix, hset]
  | tReleaseSetX =>
    have hset : c.codeSet = .setX := of_decide_eq_true hi
    simp [encode, decode, decodeByte, classify_releasePrefix, hset]
  | tExt b =>
    have hclass : classify c b = .extended := of_decide_eq_true hi
    simp [encode, decode, decodeByte, hclass]
  | tSpecial =>
    obtain ⟨p, hp⟩ := Option.isSome_iff_exists.mp hi
    simp [encode, decode, decodeByte, hp, classify_specialPrefix hwf hp]
  | tKey b =>
    simp only [WellFormed, Bool.and_eq_true, decide_eq_true_eq, Bool.not_eq_true', Bool.and_eq_false_iff,
      decide_eq_false_iff_not] at hi
    obtain ⟨hclass, hrow⟩ := hi
    have hrow' : ¬ (c.codeSet = .set3 ∧ b = 0x1C) := fun h => hrow.elim (· h.1) (· h.2)
    simp only [encode, decode, decodeByte, hclass, if_neg hrow']
  | tKey1C =>
    simp only [WellFormed, Bool.and_eq_true, decide_eq_true_eq] at hi
    obtain ⟨hset, hclass⟩ := hi
    simp only [encode, decode, decodeByte, hclass, hset, and_self, if_true]
  -- REPLY
  | replyAck => simp [encode, decode, decodeReply]
  | replyResend =>
    have hne : c.resendByte ≠ c.ackByte := (Config.limits_of_wf hwf).2.2.2.1.symm
    simp [encode, decode, decodeReply, hne]
  | replyOther b =>
    simp only [WellFormed, Bool.and_eq_true, decide_eq_true_eq] at hi
    obtain ⟨hack, hresend⟩ := hi
    simp [encode, decode, decodeReply, hack, hresend]
  -- CMD
  | cmdResend => exact decode_command (role := .resend) rfl
  | cmdSetLeds => exact decode_command (role := .setLeds) rfl
  | cmdSelectCodeSet => exact decode_command (role := .selectCodeSet) hi
  | cmdDisableTypematic => exact decode_command (role := .disableTypematic) hi
  -- LED, EVENT, REPORT8
  | ledLegacy cl nl sl => simp [encode, decode, decodeLedLegacy]
  | event rel id =>
    have hid : isKeyId id = true := hi
    simp [encode, decode, hid]
  | rolloverSentinel => simp [encode, decode]
  -- the rows with a byte operand, an event operand, a fault operand
  | qPush b => exact (decode_byteRow b).1
  | translate b => exact (decode_byteRow b).2.1
  | txWrite b => exact (decode_byteRow b).2.2.1
  | sCmd b => exact (decode_byteRow b).2.2.2.1
  | ledIn u => exact (decode_byteRow u).2.2.2.2
  | mApply id rel =>
    have hid : isKeyId id = true := hi
    simp [encode, decode, decodeInvoked, hid]
  | txFail f => cases f <;> rfl
  -- the rows selected by their name, and LED_USB, whose byte is its selector
  | ledUsb | rxStale | rxStep | qPop | replyNone | report8 | txWaitIdle | txSettle | txInhibit | txStart | txWaitLow
  | txWaitHigh | txAckWaitLow | txAckWaitRelease | txSucceed | rBuild | rDeliver | rDeliverReq | sStartup | sLed | sResend
  | sLoop | sSleep | lineInit => rfl

/-! ### Encoding what was decoded -/

/-- The selector `sel` is the encoding of the well-formed operation `i`. -/
def Encodes (c : Config) (i : Instr) (sel : Selector) : Prop := encode c i = sel ∧ WellFormed c i = true

theorem encodes_of_decodeRxsel {c : Config} {w : BitVec 5} {i : Instr} (h : decodeRxsel w = .ok i) :
    Encodes c i (.rxsel w) := by
  obtain ⟨k, d, rfl⟩ : ∃ k d, w = rxselWord k d := ⟨_, _, (rxselWord_of_fields w).symm⟩
  rw [decodeRxsel_word] at h
  split_ifs at h with h0 hd h8 h9 h10
  · obtain rfl := Decoded.ok.inj h
    obtain rfl : k = 0 := BitVec.eq_of_toNat_eq h0
    exact ⟨by rw [hd]; rfl, rfl⟩
  · obtain rfl := Decoded.ok.inj h
    obtain rfl : k = 0 := BitVec.eq_of_toNat_eq h0
    exact ⟨by rw [Bool.eq_false_iff.mpr hd]; rfl, rfl⟩
  · obtain rfl := Decoded.ok.inj h
    exact ⟨rfl, decide_eq_true ⟨Nat.one_le_iff_ne_zero.mpr h0, h8⟩⟩
  · obtain rfl := Decoded.ok.inj h
    obtain rfl : k = 9 := BitVec.eq_of_toNat_eq h9
    exact ⟨rfl, rfl⟩
  · obtain rfl := Decoded.ok.inj h
    obtain rfl : k = 10 := BitVec.eq_of_toNat_eq h10
    exact ⟨rfl, rfl⟩

theorem encodes_of_decodeFrame {c : Config} {w : BitVec 11} {i : Instr} (h : decodeFrame w = .ok i) :
    Encodes c i (.frame11 w) := by
  unfold decodeFrame at h
  split_ifs at h with hstart hparity hstop
  obtain rfl := Decoded.ok.inj h
  exact ⟨rfl, by simp_all [WellFormed, frameValid]⟩

theorem encodes_of_decodeByte {c : Config} {b : Byte} {i : Instr} (h : decodeByte c b = .ok i) :
    Encodes c i (.byteClass b) := by
  unfold decodeByte at h
  split at h
  next hclass =>
    obtain rfl := Decoded.ok.inj h
    rw [classify_eq_release.mp hclass]
    cases hset : c.codeSet <;> simp [Encodes, encode, WellFormed, hset]
  next hclass =>
    obtain rfl := Decoded.ok.inj h
    exact ⟨rfl, decide_eq_true hclass⟩
  next hclass =>
    obtain rfl := Decoded.ok.inj h
    simp [Encodes, encode, WellFormed, specialPrefix_of_classify hclass]
  next hclass =>
    split_ifs at h with hrow
    · obtain rfl := Decoded.ok.inj h
      obtain ⟨hset, rfl⟩ := hrow
      exact ⟨rfl, Bool.and_eq_true_iff.mpr ⟨decide_eq_true hset, decide_eq_true hclass⟩⟩
    · obtain rfl := Decoded.ok.inj h
      exact ⟨rfl, by simpa [WellFormed, hclass, ← Bool.decide_and] using hrow⟩

theorem encodes_of_decodeReply {c : Config} {b : Byte} {i : Instr} (h : decodeReply c b = .ok i) :
    Encodes c i (.reply b) := by
  unfold decodeReply at h
  split_ifs at h with hack hresend
  · obtain rfl := Decoded.ok.inj h
    exact ⟨by rw [hack]; rfl, rfl⟩
  · obtain rfl := Decoded.ok.inj h
    exact ⟨by rw [hresend]; rfl, rfl⟩
  · obtain rfl := Decoded.ok.inj h
    exact ⟨rfl, by simp [WellFormed, hack, hresend]⟩

theorem encodes_of_decodeCommand {c : Config} {role : CmdRole} {b : Byte} {i : Instr}
    (h : decodeCommand c role b = .ok i) : Encodes c i (.cmd role b) := by
  unfold decodeCommand at h
  split_ifs at h with hb
  obtain rfl := Decoded.ok.inj h
  have hget : commandByteOrZero c role = b := by rw [commandByteOrZero, hb]; rfl
  have hsome : (commandByte c role).isSome = true := by rw [hb]; rfl
  cases role
  · exact ⟨congrArg (Selector.cmd .resend) hget, rfl⟩
  · exact ⟨congrArg (Selector.cmd .setLeds) hget, rfl⟩
  · exact ⟨congrArg (Selector.cmd .selectCodeSet) hget, hsome⟩
  · exact ⟨congrArg (Selector.cmd .disableTypematic) hget, hsome⟩

theorem encodes_of_decodeLedLegacy {c : Config} {b : Byte} {i : Instr} (h : decodeLedLegacy b = .ok i) :
    Encodes c i (.ledLegacy b) := by
  unfold decodeLedLegacy at h
  split_ifs at h with hzero
  obtain rfl := Decoded.ok.inj h
  exact ⟨congrArg Selector.ledLegacy (ledLegacyByte_of_reserved hzero), rfl⟩

theorem decodeByteOperand_ok {f : Byte → Instr} {x : BitVec 9} {i : Instr} (h : decodeByteOperand f x = .ok i) :
    ∃ b, x = byteOperand b ∧ i = f b := by
  unfold decodeByteOperand at h
  split_ifs at h with hbit
  obtain rfl := Decoded.ok.inj h
  exact ⟨_, (byteOperand_of_low (Bool.eq_false_iff.mpr hbit)).symm, rfl⟩

theorem decodeNoOperand_ok {i j : Instr} {x : BitVec 9} (h : decodeNoOperand j x = .ok i) : x = 0 ∧ i = j := by
  unfold decodeNoOperand at h
  split_ifs at h with hx
  exact ⟨hx, (Decoded.ok.inj h).symm⟩

theorem encodes_of_decodeInvoked {c : Config} {row : EventRow} {x : BitVec 9} {i : Instr}
    (h : decodeInvoked row x = .ok i) : Encodes c i (.invoked row x) := by
  cases row with
  | qPush | translate | txWrite | sCmd | ledIn =>
    obtain ⟨b, rfl, rfl⟩ := decodeByteOperand_ok h
    exact ⟨rfl, rfl⟩
  | mApply =>
    simp only [decodeInvoked] at h
    split_ifs at h with hid
    obtain rfl := Decoded.ok.inj h
    exact ⟨congrArg (Selector.invoked .mApply) (eventWord_of_fields x), hid⟩
  | txFail =>
    simp only [decodeInvoked] at h
    split_ifs at h with h0 h1 h2 h3 <;> obtain rfl := Decoded.ok.inj h
    · exact ⟨congrArg _ h0.symm, rfl⟩
    · exact ⟨congrArg _ h1.symm, rfl⟩
    · exact ⟨congrArg _ h2.symm, rfl⟩
    · exact ⟨congrArg _ h3.symm, rfl⟩
  | _ =>
    obtain ⟨rfl, rfl⟩ := decodeNoOperand_ok h
    exact ⟨rfl, rfl⟩

/-- Settles O19: format by format, the bits a row was read from are the bits it encodes to. -/
theorem aDecodedSelectorIsTheEncoding : Obligations.ADecodedSelectorIsTheEncoding := by
  unfold Obligations.ADecodedSelectorIsTheEncoding
  intro c sel i h
  cases sel with
  | rxsel w => exact encodes_of_decodeRxsel h
  | frame11 w => exact encodes_of_decodeFrame h
  | lineAck w =>
    obtain rfl := Decoded.ok.inj h
    exact ⟨congrArg Selector.lineAck (ofBool_getLsbD_zero w), rfl⟩
  | byteClass b => exact encodes_of_decodeByte h
  | reply b => exact encodes_of_decodeReply h
  | cmd role b => exact encodes_of_decodeCommand h
  | ledUsb b =>
    obtain rfl := Decoded.ok.inj h
    exact ⟨rfl, rfl⟩
  | ledLegacy b => exact encodes_of_decodeLedLegacy h
  | event w =>
    simp only [decode] at h
    split_ifs at h with hid
    obtain rfl := Decoded.ok.inj h
    exact ⟨congrArg Selector.event (eventWord_of_fields w), hid⟩
  | report8 b =>
    simp only [decode] at h
    split_ifs at h with hb
    obtain rfl := Decoded.ok.inj h
    exact ⟨congrArg Selector.report8 hb.symm, rfl⟩
  | invoked row x => exact encodes_of_decodeInvoked h

/-! ### Rows and words of the spec -/

/-- Settles O20: the branches of the RXSEL decoder at each count. -/
theorem theReceiveSelectorTable : Obligations.TheReceiveSelectorTable := by
  unfold Obligations.TheReceiveSelectorTable
  intro c k d
  refine ⟨?_, fun ⟨h1, h8⟩ => decode_rxselWord_data c d h1 h8, ?_, ?_, fun h11 => ?_⟩
  · rintro rfl
    exact decode_rxselWord_zero c d
  · rintro rfl
    simp [decode, decodeRxsel_word]
  · rintro rfl
    simp [decode, decodeRxsel_word]
  · have h0 : k.toNat ≠ 0 := by omega
    have h8 : ¬ k.toNat ≤ 8 := by omega
    have h9 : k.toNat ≠ 9 := by omega
    have h10 : k.toNat ≠ 10 := by omega
    simp only [decode, decodeRxsel_word, h0, h8, h9, h10, if_false]

/-- Settles O21: ten closed words, each decoded by evaluation. -/
theorem wordsOfTheSpecDecode : Obligations.WordsOfTheSpecDecode := by
  unfold Obligations.WordsOfTheSpecDecode
  decide +kernel

end Sys2Proof.Machine

/-! Proofs. FG's turn, one equation per case (R44, R150, R221, R230 to R238): a due TX.WRITE, the poll of a running write, the
step of S.CMD that is due, else the operation of the position. Later proofs read FG through these equations. -/

namespace Sys2Proof.Machine

/-! ### A call of TX.WRITE, a running write -/

theorem fgStep_of_fetch {s : State} {p : Selector × State} (h : fgFetch s = some p) : fgStep s = runSelector p.1 p.2 := by
  simp [fgStep, h]

theorem fgStep_of_due {s : State} (hdue : s.cmd.writeDue = true) :
    fgStep s = txBegin s.cmd.byte { s with cmd := { s.cmd with writeDue := false } } := by
  rw [fgStep_of_fetch (by simp only [fgFetch, hdue, if_true]; rfl)]
  exact runs_txWrite _ _

/-- The operation of a running write in its phase (R150); none at rest. -/
def pollOf : TxPhase → Option Instr
  | .idle => none
  | .done => none
  | .waitIdle => some .txWaitIdle
  | .settle => some .txSettle
  | .inhibit => some .txInhibit
  | .start => some .txStart
  | .waitLow => some .txWaitLow
  | .waitHigh => some .txWaitHigh
  | .ackWaitLow => some .txAckWaitLow
  | .ackWaitRelease => some .txAckWaitRelease

/-- The selector of a running write decodes to the operation of its phase. -/
theorem decode_txSelector (c : Config) {p : TxPhase} {sel : Selector} (h : txSelector p = some sel) :
    ∃ i, pollOf p = some i ∧ decode c sel = .ok i := by
  cases p with
  | idle | done => cases h
  | _ =>
    obtain rfl := Option.some.inj h
    exact ⟨_, rfl, rfl⟩

theorem txSelector_of_poll {p : TxPhase} {i : Instr} (h : pollOf p = some i) : ∃ sel, txSelector p = some sel := by
  cases p with
  | idle | done => cases h
  | _ => exact ⟨_, rfl⟩

theorem pollOf_of_running {p : TxPhase} (h : p.atRest = false) : ∃ i, pollOf p = some i := by
  cases p with
  | idle | done => cases h
  | _ => exact ⟨_, rfl⟩

theorem txSelector_of_rest {p : TxPhase} (h : p.atRest = true) : txSelector p = none := by
  cases p with
  | idle | done => rfl
  | _ => cases h

theorem runSelector_of_decode {sel : Selector} {s : State} {i : Instr} (h : decode s.cfg sel = .ok i) :
    runSelector sel s = exec i s := by
  simp [runSelector, h]

theorem fgStep_of_running {s : State} {i : Instr} (hdue : s.cmd.writeDue = false) (hpoll : pollOf s.tx.phase = some i) :
    fgStep s = exec i s := by
  obtain ⟨sel, hsel⟩ := txSelector_of_poll hpoll
  obtain ⟨j, hj, hdec⟩ := decode_txSelector s.cfg hsel
  obtain rfl := Option.some.inj (hpoll.symm.trans hj)
  rw [fgStep_of_fetch (by simp only [fgFetch, hdue, hsel, Bool.false_eq_true, if_false]; rfl)]
  exact runSelector_of_decode hdec

/-! ### S.CMD -/

theorem fgStep_of_send {s : State} (hdue : s.cmd.writeDue = false) (hrest : s.tx.phase.atRest = true)
    (hcmd : s.cmd.phase = .send) : fgStep s = .next (cmdAfterWrite s) := by
  rw [fgStep_of_fetch (by simp only [fgFetch, hdue, txSelector_of_rest hrest, hcmd, Bool.false_eq_true, if_false]; rfl),
    runs_sCmd]
  simp only [execSCmd, hcmd]

/-- A poll of the reply wait, selected byte by byte, is the poll of S.CMD (R103, R221). -/
theorem runs_replyFetch (s : State) : runSelector (replyFetch s).1 (replyFetch s).2 = .next (cmdPoll s) := by
  unfold replyFetch cmdPoll
  split
  next b hb =>
    rw [runs_reply, queueDrop_cfg]
    simp only [hb]
  next hb => simp only [runs_replyNone, hb, execReplyNone]

theorem fgStep_of_wait {s : State} (hdue : s.cmd.writeDue = false) (hrest : s.tx.phase.atRest = true)
    (hcmd : s.cmd.phase = .wait) : fgStep s = .next (cmdPoll s) := by
  rw [fgStep_of_fetch (by simp only [fgFetch, hdue, txSelector_of_rest hrest, hcmd, Bool.false_eq_true, if_false]; rfl)]
  exact runs_replyFetch s

/-! ### The positions -/

section
variable {s : State} (hfree : s.foregroundFree)
include hfree

theorem fgFetch_of_free : fgFetch s = positionFetch s := by
  obtain ⟨hdue, hcmd, hrest⟩ := hfree
  simp only [fgFetch, hdue, hcmd, txSelector_of_rest hrest, Bool.false_eq_true, if_false]

theorem fgStep_of_position {sel : Selector} {u : State} (h : positionFetch s = some (sel, u)) :
    fgStep s = runSelector sel u :=
  fgStep_of_fetch ((fgFetch_of_free hfree).trans h)

theorem fgStep_at_boot (h : s.fg = .boot) : fgStep s = .next { releaseBus s with fg := .startup 0 } := by
  rw [fgStep_of_position hfree (by simp only [positionFetch, h]; rfl), runs_sStartup]
  simp only [execSStartup, h]

/-- Before a byte of the sequence: its own row, or S.CMD where the byte has none; either is S.CMD of that byte (R230). -/
theorem fgStep_at_startup {i : Nat} {b : Byte} (h : s.fg = .startup i) (hb : s.cfg.startupSeq[i]? = some b) :
    fgStep s = cmdBegin b { s with fg := .startupWait i } := by
  have hfetch : positionFetch s = some (startupFetch i s) := by simp only [positionFetch, h]
  rw [fgStep_of_fetch ((fgFetch_of_free hfree).trans hfetch)]
  simp only [startupFetch, hb]
  split_ifs with h0 h2
  · subst h0
    rw [runs_command (by exact hb)]
    simp only [commandInstr, exec, execCmdSelectCodeSet, commandByte, hb, cmdBeginOf]
  · subst h2
    rw [runs_command (by exact hb)]
    simp only [commandInstr, exec, execCmdDisableTypematic, commandByte, hb, cmdBeginOf]
  · rw [runs_sCmd]
    simp only [execSCmd, hfree.2.1]

theorem fgStep_at_startup_end {i : Nat} (h : s.fg = .startup i) (hb : s.cfg.startupSeq[i]? = none) :
    fgStep s = .next { s with mode := .run, fg := .loopTop } := by
  rw [fgStep_of_position hfree (by simp only [positionFetch, h, startupFetch, hb]; rfl), runs_sStartup]
  simp only [execSStartup, h, hb]

theorem fgStep_at_startupWait {i : Nat} (h : s.fg = .startupWait i) :
    fgStep s = if s.cmd.result then .next { s with fg := .startup (i + 1) }
      else .next { s.raise (.initFatal s.cmd.byte) with mode := .failed, fg := .halted } := by
  rw [fgStep_of_position hfree (by simp only [positionFetch, h]; rfl), runs_sStartup]
  simp only [execSStartup, h]

theorem fgStep_at_loopTop (h : s.fg = .loopTop) : fgStep s = execSLoop s := by
  rw [fgStep_of_position hfree (by simp only [positionFetch, h]; rfl), runs_sLoop]

theorem fgStep_at_resend (h : s.fg = .resend) :
    fgStep s = .next { s with fg := if s.resendRequest then .resendSend else .drain } := by
  rw [fgStep_of_position hfree (by simp only [positionFetch, h]; rfl), runs_sResend]
  simp only [execSResend, h]

theorem fgStep_at_resendSend (h : s.fg = .resendSend) :
    fgStep s = txBegin s.cfg.cmdResend { s with fg := .resendWait } := by
  rw [fgStep_of_position hfree (by simp only [positionFetch, h]; rfl), runs_command rfl]
  rfl

theorem fgStep_at_resendWait (h : s.fg = .resendWait) :
    fgStep s = .next { s with resendRequest := if s.tx.result then false else s.resendRequest, fg := .drain } := by
  rw [fgStep_of_position hfree (by simp only [positionFetch, h]; rfl), runs_sResend]
  simp only [execSResend, h]

theorem fgStep_at_drain_popped {b : Byte} (h : s.fg = .drain) (hb : s.popped = some b) :
    fgStep s = exec (.translate b) { s with popped := none } := by
  have hfetch : positionFetch s = some (.byteClass b, { s with popped := none }) := by
    simp only [positionFetch, h, drainFetch, hb]
  rw [fgStep_of_position hfree hfetch, runs_byteClass]
  rfl

theorem fgStep_at_drain_event {e : Byte × Bool} (h : s.fg = .drain) (hb : s.popped = none) (he : s.event = some e)
    (hkey : isKeyId e.1 = true) : fgStep s = exec (.mApply e.1 e.2) { s with event := none } := by
  have hfetch : positionFetch s = some (.invoked .mApply (eventWord e.2 e.1), { s with event := none }) := by
    simp only [positionFetch, h, drainFetch, hb, he]
  rw [fgStep_of_position hfree hfetch, runs_mApply hkey]
  rfl

theorem fgStep_at_drain_pop (h : s.fg = .drain) (hb : s.popped = none) (he : s.event = none) :
    fgStep s = exec .qPop { s with fg := if s.queueEmpty then .deliver else .drain } := by
  have hfetch : positionFetch s =
      some (.invoked .qPop 0, { s with fg := if s.queueEmpty then .deliver else .drain }) := by
    simp only [positionFetch, h, drainFetch, hb, he]
  rw [fgStep_of_position hfree hfetch, runs_qPop]
  rfl

theorem fgStep_at_deliver (h : s.fg = .deliver) : fgStep s = exec .rDeliver { s with fg := .led } := by
  rw [fgStep_of_position hfree (by simp only [positionFetch, h]; rfl), runs_rDeliver]
  rfl

theorem fgStep_at_led_pending (h : s.fg = .led) (hp : s.ledPending = true) :
    fgStep s = .next { s with ledPending := false, fg := .ledSend s.ledUsb } := by
  rw [fgStep_of_position hfree (by simp only [positionFetch, h, hp, if_true]; rfl), runs_sLed]
  simp only [execSLed, h, hp, if_true]

theorem fgStep_at_led_none (h : s.fg = .led) (hp : s.ledPending = false) :
    fgStep s = .next { s with fg := .loopTop } := by
  have hfetch : positionFetch s = some (.invoked .sSleep 0, { s with fg := .loopTop }) := by
    simp only [positionFetch, h, hp, Bool.false_eq_true, if_false]
  rw [fgStep_of_position hfree hfetch, runs_sSleep]
  rfl

theorem fgStep_at_ledSend {u : Byte} (h : s.fg = .ledSend u) :
    fgStep s = cmdBegin s.cfg.cmdSetLeds { s with fg := .ledWait u } := by
  rw [fgStep_of_position hfree (by simp only [positionFetch, h]; rfl), runs_command rfl]
  rfl

theorem fgStep_at_ledWait {u : Byte} (h : s.fg = .ledWait u) :
    fgStep s = .next { s with fg := if s.cmd.result then .ledArgSend u else .sleep } := by
  rw [fgStep_of_position hfree (by simp only [positionFetch, h]; rfl), runs_sLed]
  simp only [execSLed, h]

theorem fgStep_at_ledArgSend {u : Byte} (h : s.fg = .ledArgSend u) :
    fgStep s = cmdBegin (ledRemap u) { s with fg := .ledArgWait } := by
  rw [fgStep_of_position hfree (by simp only [positionFetch, h]; rfl), runs_ledLegacy]

theorem fgStep_at_ledArgWait (h : s.fg = .ledArgWait) : fgStep s = .next { s with fg := .sleep } := by
  rw [fgStep_of_position hfree (by simp only [positionFetch, h]; rfl), runs_sLed]
  simp only [execSLed, h]

theorem fgStep_at_sleep (h : s.fg = .sleep) : fgStep s = .next { s with fg := .loopTop } := by
  rw [fgStep_of_position hfree (by simp only [positionFetch, h]; rfl), runs_sSleep]
  rfl

theorem fgStep_at_halted (h : s.fg = .halted) : fgStep s = .next s := by
  simp only [fgStep, fgFetch_of_free hfree, positionFetch, h]

end

end Sys2Proof.Machine

/-! Proofs. The report (R106 to R108, R203): the scan of R.BUILD gives the report of the format, whose eight bytes are read off. -/

namespace Sys2Proof.Machine

/-- A held key is an identifier of eight bits. -/
theorem heldKeys_lt {km : Matrix} {i : Nat} (h : i ∈ heldKeys km) : i < 256 := by
  obtain ⟨hrange, -⟩ := mem_heldKeys.mp h
  omega

/-- What the scan leaves in the slots of a report that does not overflow is what the format puts there. -/
theorem slotsOf_take_byte (c : Config) (m : Byte) (h : List Nat) {k : Nat} (hk : k < 6)
    (hfit : h.length ≤ c.reportSlots) : (slotsOf m (h.take c.reportSlots)).byte (2 + k) = slotByte c h k := by
  rw [slotsOf_byte _ _ hk, List.take_of_length_le hfit, slotByte, if_pos hfit]
  split
  · rfl
  · next hslot => rw [List.getElem?_eq_none (by omega)]; rfl

theorem buildReport_eq_reportOf (c : Config) (km : Matrix) : buildReport c km = reportOf c km := by
  simp only [buildReport, scanMatrix_eq, padSlots_slotsOf]
  split
  next hover =>
    refine Report.ext_byte (fillSlots_modifiers _ _ _) (fillSlots_reserved _ _ _) fun k hk => ?_
    rw [fillSlots_byte _ _ _ hk, reportOf_byte _ _ hk, slotByte]
    split
    · rw [if_neg (by omega)]
    · rw [slotsOf_byte _ _ hk, List.getElem?_eq_none (by simp; omega)]
      rfl
  next hfit =>
    refine Report.ext_byte rfl rfl fun k hk => ?_
    rw [slotsOf_take_byte c _ _ hk (by omega), reportOf_byte _ _ hk]

/-- Settles O42: both are the same eight bytes, whether or not the keys fit. -/
theorem theScanBuildsTheReport : Obligations.TheScanBuildsTheReport := by
  unfold Obligations.TheScanBuildsTheReport
  refine ⟨buildReport_eq_reportOf, fun s => ?_⟩
  rw [← buildReport_eq_reportOf]
  rfl

/-- Slot `k` of a report that fits holds the `k`-th held key. -/
theorem slotByte_toNat {c : Config} {km : Matrix} (hfit : (heldKeys km).length ≤ c.reportSlots) (k : Nat) :
    (slotByte c (heldKeys km) k).toNat =
      if hk : k < (heldKeys km).length ∧ k < c.reportSlots then (heldKeys km)[k]'hk.1 else 0 := by
  unfold slotByte
  by_cases hslot : k < c.reportSlots
  · by_cases hlen : k < (heldKeys km).length
    · rw [if_pos hslot, if_pos hfit, dif_pos ⟨hlen, hslot⟩, List.getElem?_eq_getElem hlen, Option.getD_some,
        BitVec.toNat_ofNat, Nat.mod_eq_of_lt (heldKeys_lt (List.getElem_mem hlen))]
    · rw [if_pos hslot, if_pos hfit, dif_neg (fun h => hlen h.1), List.getElem?_eq_none (by omega)]
      rfl
  · rw [if_neg hslot, dif_neg (fun h => hslot h.2)]
    rfl

theorem modByte_bit (km : Matrix) {i : Nat} (hi : i < 8) : (modByte km).getLsbD i = km.getLsbD (0xE0 + i) := by
  simp [modByte, hi]

/-- Settles O41: H is `heldKeys`; the slots are `slotByte` of it, or the sentinel fill. -/
theorem theReportFormat : Obligations.TheReportFormat := by
  unfold Obligations.TheReportFormat
  constructor
  · intro s
    refine ⟨{ s with built := reportOf s.cfg s.km }, heldKeys s.km, rfl, rfl, fun i hi => modByte_bit s.km hi, rfl,
      heldKeys_sorted s.km, fun i => mem_heldKeys, fun hfit k hk => ?_, fun hover k hk => ?_⟩
    · rw [reportOf_byte _ _ hk, slotByte_toNat hfit]
    · rw [reportOf_byte _ _ hk, slotByte, if_neg (Nat.not_le.mpr hover)]
  · intro s
    exact ⟨_, rfl, rfl, fillSlots_modifiers _ _ _, fillSlots_reserved _ _ _, fun k hk => fillSlots_byte _ _ _ hk⟩

/-! ### Delivery (R208, R209) -/

theorem exec_rDeliver (s : State) : exec .rDeliver s =
    if reportOf s.cfg s.km = s.lastReport then .next s else .next (s.deliver (reportOf s.cfg s.km)) := by
  simp only [exec, execRDeliver, buildReport_eq_reportOf, ne_eq, ite_not]

theorem exec_rDeliverReq (s : State) : exec .rDeliverReq s = .next (s.deliver (reportOf s.cfg s.km)) := by
  rw [← buildReport_eq_reportOf]
  rfl

/-! ### The report of a matrix with at most one key -/

theorem heldKeys_zero : heldKeys 0 = [] := by
  simp [heldKeys]

theorem reportOf_zero (c : Config) : reportOf c 0 = Report.zero := by
  have hslot (k : Nat) : slotByte c [] k = 0x00 := by simp [slotByte]
  simp only [reportOf, heldKeys_zero, hslot]
  rfl

/-- The matrix in which the key `id` alone is held. -/
theorem applyEvent_press_zero_bit (id : Byte) (j : Nat) :
    (applyEvent id false 0).getLsbD j = decide (j = id.toNat) := by
  by_cases hj : j < 256
  · rw [applyEvent_bit id false 0 hj]
    by_cases h : j = id.toNat <;> simp [h]
  · have hne : j ≠ id.toNat := fun h => hj (h ▸ id.isLt)
    rw [BitVec.getLsbD_of_ge _ _ (Nat.not_lt.mp hj), decide_eq_false hne]

theorem heldKeys_press_zero {id : Byte} (h1 : 1 ≤ id.toNat) (hmod : id.toNat < 0xE0) :
    heldKeys (applyEvent id false 0) = [id.toNat] := by
  have hmem (i : Nat) : i ∈ heldKeys (applyEvent id false 0) ↔ i ∈ [id.toNat] := by
    rw [mem_heldKeys, applyEvent_press_zero_bit, decide_eq_true_eq, List.mem_singleton]
    omega
  exact (heldKeys_sorted _).eq_of_mem_iff (List.pairwise_singleton _ _) hmem

theorem modByte_press_zero {id : Byte} (hmod : id.toNat < 0xE0) : modByte (applyEvent id false 0) = 0x00 := by
  refine BitVec.eq_of_getLsbD_eq fun i hi => ?_
  have hne : 0xE0 + i ≠ id.toNat := by omega
  rw [modByte_bit _ hi, applyEvent_press_zero_bit, decide_eq_false hne]
  simp

/-- One non-modifier key held: its identifier in slot 0, zeros elsewhere. -/
theorem reportOf_press_zero {c : Config} (hslots : 1 ≤ c.reportSlots) {id : Byte} (h1 : 1 ≤ id.toNat)
    (hmod : id.toNat < 0xE0) :
    reportOf c (applyEvent id false 0) = { Report.zero with slot0 := id } := by
  have hfirst : slotByte c [id.toNat] 0 = id := by simp [slotByte, Nat.lt_of_succ_le hslots, hslots]
  have hrest (k : Nat) : slotByte c [id.toNat] (k + 1) = 0x00 := by simp [slotByte, hslots]
  simp only [reportOf, heldKeys_press_zero h1 hmod, modByte_press_zero hmod, hfirst]
  rw [hrest 0, hrest 1, hrest 2, hrest 3, hrest 4]
  rfl

end Sys2Proof.Machine

/-! Proofs. The receive handler (40_line_rx.md): what it writes, that it answers, and what each bit of a frame does to LineState. -/

namespace Sys2Proof.Machine

/-! ### What every next state of an outcome has -/

/-- If the outcome answers a next state, that state satisfies `P`. -/
def Leads (P : State → Prop) (o : Outcome) : Prop := ∀ t, o = .next t → P t

section
variable {P Q : State → Prop} {o : Outcome}

@[simp] theorem leads_next {u : State} : Leads P (.next u) ↔ P u := by simp [Leads]
@[simp] theorem leads_fault {r : Fault} : Leads P (.fault r) := by simp [Leads]
@[simp] theorem leads_refused {r : Refusal} : Leads P (.refused r) := by simp [Leads]

@[simp] theorem leads_ite {c : Prop} [Decidable c] {o' : Outcome} :
    Leads P (if c then o else o') ↔ (c → Leads P o) ∧ (¬ c → Leads P o') := by
  split_ifs with h <;> simp [h]

theorem Leads.mono (h : Leads P o) (hPQ : ∀ t, P t → Q t) : Leads Q o := fun t ht => hPQ t (h t ht)

theorem Leads.andThen {f : State → Outcome} (h : Leads P o) (hf : ∀ u, P u → Leads Q (f u)) : Leads Q (andThen o f) := by
  intro t ht
  obtain ⟨u, hu, ht⟩ := andThen_next.mp ht
  exact hf u (h u hu) t ht

end

/-! ### The elements of the receiver (R56) -/

/-- From `s` to `t` only LineState, the flag, the write side of the queue and the fault log may differ. -/
def ReceiverFrame (s t : State) : Prop :=
  t = { s with
    rx := { t.rx with suppressed := s.rx.suppressed }
    resendRequest := t.resendRequest
    q := { t.q with rd := s.q.rd }
    out := { t.out with reports := s.out.reports } }

theorem ReceiverFrame.refl (s : State) : ReceiverFrame s s := rfl

theorem ReceiverFrame.trans {s t u : State} (hst : ReceiverFrame s t) (htu : ReceiverFrame t u) : ReceiverFrame s u := by
  unfold ReceiverFrame at *
  rw [hst] at htu
  exact htu

section
variable {s t : State} (h : ReceiverFrame s t)
include h

theorem ReceiverFrame.cfg_eq : t.cfg = s.cfg := by unfold ReceiverFrame at h; rw [h]
theorem ReceiverFrame.env_eq : t.env = s.env := by unfold ReceiverFrame at h; rw [h]
theorem ReceiverFrame.drive_eq : t.drive = s.drive := by unfold ReceiverFrame at h; rw [h]
theorem ReceiverFrame.tx_eq : t.tx = s.tx := by unfold ReceiverFrame at h; rw [h]
theorem ReceiverFrame.tr_eq : t.tr = s.tr := by unfold ReceiverFrame at h; rw [h]
theorem ReceiverFrame.km_eq : t.km = s.km := by unfold ReceiverFrame at h; rw [h]
theorem ReceiverFrame.lastReport_eq : t.lastReport = s.lastReport := by unfold ReceiverFrame at h; rw [h]
theorem ReceiverFrame.mode_eq : t.mode = s.mode := by unfold ReceiverFrame at h; rw [h]
theorem ReceiverFrame.cmd_eq : t.cmd = s.cmd := by unfold ReceiverFrame at h; rw [h]
theorem ReceiverFrame.ledPending_eq : t.ledPending = s.ledPending := by unfold ReceiverFrame at h; rw [h]
theorem ReceiverFrame.fg_eq : t.fg = s.fg := by unfold ReceiverFrame at h; rw [h]
theorem ReceiverFrame.popped_eq : t.popped = s.popped := by unfold ReceiverFrame at h; rw [h]
theorem ReceiverFrame.event_eq : t.event = s.event := by unfold ReceiverFrame at h; rw [h]
theorem ReceiverFrame.edgeLatched_eq : t.edgeLatched = s.edgeLatched := by unfold ReceiverFrame at h; rw [h]
theorem ReceiverFrame.suppressed_eq : t.rx.suppressed = s.rx.suppressed := by unfold ReceiverFrame at h; rw [h]

end

theorem rxStale_receiverFrame (s : State) : ReceiverFrame s (rxStale s) := by
  unfold rxStale
  split <;> rfl

theorem frameGood_receiverFrame (b : Byte) (s : State) : ReceiverFrame s (frameGood b s) := by
  unfold frameGood queuePush
  split <;> rfl

theorem frameBad_receiverFrame (b : Byte) (p d : Bool) (s : State) : ReceiverFrame s (frameBad b p d s) := by
  cases p <;> cases d <;> rfl

theorem acceptBit_receiverFrame (n : BitVec 4) (s : State) : ReceiverFrame s (acceptBit n s) := rfl

theorem execRxStop_receiverFrame (d : Bool) (s : State) : Leads (ReceiverFrame s) (execRxStop d s) := by
  unfold execRxStop
  split_ifs
  · exact leads_next.mpr ((acceptBit_receiverFrame 0 s).trans (frameGood_receiverFrame _ _))
  · exact leads_next.mpr ((acceptBit_receiverFrame 0 s).trans (frameBad_receiverFrame _ _ _ _))

theorem rxDispatch_receiverFrame (d : Bool) (s : State) : Leads (ReceiverFrame s) (rxDispatch d s) := by
  unfold rxDispatch
  split_ifs
  · exact leads_next.mpr rfl
  · exact leads_next.mpr rfl
  · exact leads_next.mpr rfl
  · exact leads_next.mpr rfl
  · exact execRxStop_receiverFrame d s
  · simp

theorem rxEdge_receiverFrame (d : Bool) (s : State) : Leads (ReceiverFrame s) (rxEdge d s) := by
  unfold rxEdge
  split
  · exact leads_next.mpr rfl
  · split
    · exact (rxDispatch_receiverFrame d (rxStale s)).mono fun _ => (rxStale_receiverFrame s).trans
    · simp

theorem rxEdges_receiverFrame (ds : List Bool) (s : State) : Leads (ReceiverFrame s) (rxEdges ds s) := by
  induction ds generalizing s with
  | nil => exact leads_next.mpr rfl
  | cons d rest ih => exact (rxEdge_receiverFrame d s).andThen fun u hu => (ih u).mono fun _ => hu.trans

theorem execFrame11_receiverFrame (w : BitVec 11) (s : State) : Leads (ReceiverFrame s) (execFrame11 w s) := by
  unfold execFrame11
  split
  · exact rxEdges_receiverFrame _ s
  · unfold peripheralFrame
    split_ifs
    · exact leads_next.mpr rfl
    · simp
    · exact leads_next.mpr (frameGood_receiverFrame _ s)
    · exact leads_next.mpr (frameBad_receiverFrame _ _ _ s)

/-- The rows of the RXSEL format, the only ones RX selects by a bit. -/
theorem format_rxsel {i : Instr} (h : i.format = .rxsel) :
    i = .rxStart ∨ i = .rxSpurious ∨ (∃ k d, i = .rxData k d) ∨ (∃ d, i = .rxParity d) ∨ ∃ d, i = .rxStop d := by
  cases i <;> simp_all [Instr.format]

/-- Settles O9: the receiver's operations are built from updates with that frame, and the frame composes. -/
theorem theReceiverWritesOnlyItsOwnElements : Obligations.TheReceiverWritesOnlyItsOwnElements := by
  unfold Obligations.TheReceiverWritesOnlyItsOwnElements
  intro i s t hi
  suffices h : Leads (ReceiverFrame s) (exec i s) from h t
  obtain hrow | rfl | rfl | ⟨w, rfl⟩ := hi
  · obtain rfl | rfl | ⟨k, d, rfl⟩ | ⟨d, rfl⟩ | ⟨d, rfl⟩ := format_rxsel hrow
    · exact leads_next.mpr rfl
    · exact leads_next.mpr rfl
    · exact leads_next.mpr rfl
    · exact leads_next.mpr rfl
    · exact execRxStop_receiverFrame d s
  · exact leads_next.mpr (rxStale_receiverFrame s)
  · exact rxEdge_receiverFrame _ s
  · exact execFrame11_receiverFrame w s

/-! ### The receiver answers (R110) -/

theorem expired_eq_true {c : Config} {limit t0 now : Nat} :
    expired c limit t0 now = true ↔ elapsed c.timeW t0 now > limit := decide_eq_true_iff

theorem expired_eq_false {c : Config} {limit t0 now : Nat} :
    expired c limit t0 now = false ↔ elapsed c.timeW t0 now ≤ limit := by
  rw [← Bool.not_eq_true, expired_eq_true, Nat.not_lt]

theorem rxStale_count_le {s : State} {n : Nat} (h : s.rx.bitCount.toNat ≤ n) : (rxStale s).rx.bitCount.toNat ≤ n := by
  obtain he | he := rxStale_bitCount s
  · rwa [he]
  · rw [he]
    exact Nat.zero_le n

theorem execRxStop_next (d : Bool) (s : State) : ∃ t, execRxStop d s = .next t ∧ t.rx.bitCount.toNat ≤ 10 := by
  unfold execRxStop
  split_ifs
  · exact ⟨_, rfl, by simp⟩
  · exact ⟨_, rfl, by simp⟩

/-- With a count the spec calls reachable the selected operation answers, with such a count again. -/
theorem rxDispatch_next (d : Bool) {s : State} (h : s.rx.bitCount.toNat ≤ 10) :
    ∃ t, rxDispatch d s = .next t ∧ t.rx.bitCount.toNat ≤ 10 := by
  unfold rxDispatch
  split_ifs with h0 hd h8 h9 h10
  · exact ⟨s, rfl, h⟩
  · exact ⟨_, rfl, Nat.le_of_ble_eq_true rfl⟩
  · refine ⟨_, rfl, ?_⟩
    show (s.rx.bitCount + 1).toNat ≤ 10
    rw [bitCount_succ_toNat h8]
    omega
  · exact ⟨_, rfl, Nat.le_of_ble_eq_true rfl⟩
  · exact execRxStop_next d s
  · omega

theorem rxEdge_next (d : Bool) {s : State} (hedge : s.cfg.rxImpl = .edge) (h : s.rx.bitCount.toNat ≤ 10) :
    ∃ t, rxEdge d s = .next t ∧ t.rx.bitCount.toNat ≤ 10 := by
  unfold rxEdge
  split
  · exact ⟨s, rfl, h⟩
  · rw [hedge]
    exact rxDispatch_next d (rxStale_count_le h)

theorem rxEdges_next (ds : List Bool) {s : State} (hedge : s.cfg.rxImpl = .edge) (h : s.rx.bitCount.toNat ≤ 10) :
    ∃ t, rxEdges ds s = .next t := by
  induction ds generalizing s with
  | nil => exact ⟨s, rfl⟩
  | cons d rest ih =>
    obtain ⟨u, hu, hcount⟩ := rxEdge_next d hedge h
    have hcfg : u.cfg = s.cfg := rxEdge_keeps_cfg d s u hu
    obtain ⟨t, ht⟩ := ih (hcfg ▸ hedge) hcount
    exact ⟨t, by rw [rxEdges, hu, andThen_of_next, ht]⟩

/-! ### One bit: RX.STALE, the selector, the stop bit -/

/-- The dispatch is the operation that the pair (rx_bit_count, d) selects (R95). -/
theorem rxDispatch_of_decode {s : State} {d : Bool} {i : Instr}
    (h : decode s.cfg (.rxsel (rxselWord s.rx.bitCount d)) = .ok i) : rxDispatch d s = exec i s := by
  simp only [decode, decodeRxsel_word] at h
  unfold rxDispatch
  split_ifs at h ⊢ with h0 hd h8 h9 h10 <;> obtain rfl := Decoded.ok.inj h <;> rfl

theorem rxEdge_of_enabled {s : State} (d : Bool) (hsupp : s.rx.suppressed = false) (hedge : s.cfg.rxImpl = .edge) :
    rxEdge d s = rxDispatch d (rxStale s) := by
  simp only [rxEdge, hsupp, hedge, Bool.false_eq_true, if_false]

/-- Settles O23: the two branches of RX.STALE, by whether the limit has passed. -/
theorem aStaleFrameIsDiscarded : Obligations.AStaleFrameIsDiscarded := by
  unfold Obligations.AStaleFrameIsDiscarded
  refine fun s => ⟨rxStale s, rfl, fun ⟨hcount, hlate⟩ => ?_, fun h => ?_⟩
  · have hcond : s.rx.bitCount ≠ 0 ∧ expired s.cfg s.cfg.tStaleMs s.rx.lastBitTime s.env.msNow = true :=
      ⟨hcount, expired_eq_true.mpr hlate⟩
    simp only [rxStale, if_pos hcond]
    rfl
  · obtain hzero | hfresh := h
    · exact rxStale_of_zero hzero
    · exact rxStale_of_fresh (expired_eq_false.mpr hfresh)

/-- Settles O25: both operations are one update of `rx`, or none. -/
theorem theParityBitAndTheExtraneousPulse : Obligations.TheParityBitAndTheExtraneousPulse := by
  unfold Obligations.TheParityBitAndTheExtraneousPulse
  exact ⟨fun s d => ⟨_, rfl, rfl, rfl, rfl, rfl, rfl, rfl⟩, fun s => rfl⟩

/-- Settles O28: the dispatch follows the RXSEL table, and every reachable count has a row. -/
theorem theReceiveStep : Obligations.TheReceiveStep := by
  unfold Obligations.TheReceiveStep
  refine fun s => ⟨execRxStep_of_suppressed, fun hsupp hedge i hi => ?_, fun hsupp hedge hcount => ?_⟩
  · have hdispatch : exec .rxStep s = rxDispatch s.data (rxStale s) := rxEdge_of_enabled s.data hsupp hedge
    rw [hdispatch, rxDispatch_of_decode (by simpa using hi)]
  · obtain ⟨t, ht, -⟩ := rxEdge_next s.data hedge hcount
    exact ⟨t, ht⟩

theorem exec_rxStop_valid {s : State} (hparity : s.rx.parity = true) :
    exec (.rxStop true) s = .next (frameGood s.rx.data (acceptBit 0 s)) := by
  simp [exec, execRxStop, stopValid, hparity]

theorem exec_rxStop_faulty {s : State} {d : Bool} (h : (d && s.rx.parity) = false) :
    exec (.rxStop d) s = .next (frameBad s.rx.data (!s.rx.parity) (!d) (acceptBit 0 s)) := by
  simp [exec, execRxStop, stopValid, h]

/-- Settles O26: the frame is accepted by `frameGood`, whose push appends the byte or logs the overflow. -/
theorem aValidStopBitQueuesTheByte : Obligations.AValidStopBitQueuesTheByte := by
  unfold Obligations.AValidStopBitQueuesTheByte
  intro s hq hparity
  have hq0 : QueueInv (acceptBit 0 s) := hq.of_eq rfl rfl
  refine ⟨_, exec_rxStop_valid hparity, ?frame, fun hroom => ⟨?_, ?_⟩, fun hfull => ⟨?_, ?_⟩⟩
  case frame =>
    unfold frameGood queuePush
    split <;> rfl
  · exact queued_push hq0 hroom s.rx.data
  · rw [frameGood_out, queuePush_of_room (s := acceptBit 0 s) hroom]
    rfl
  · exact queuePush_of_full_q (s := acceptBit 0 s) hfull s.rx.data
  · rw [frameGood_out, queuePush_of_full (s := acceptBit 0 s) hfull]
    rfl

/-- Settles O27: the frame is discarded by `frameBad`, whose faults are `frameBad_faults`. -/
theorem aFaultyStopBitRequestsAResend : Obligations.AFaultyStopBitRequestsAResend := by
  unfold Obligations.AFaultyStopBitRequestsAResend
  intro s d h
  refine ⟨_, exec_rxStop_faulty h, ?frame, frameBad_out_reports _ _ _ _, ?faults⟩
  case frame =>
    conv_lhs => rw [frameBad_frame]
    rfl
  case faults =>
    rw [frameBad_faults]
    cases d <;> cases s.rx.parity <;> rfl

end Sys2Proof.Machine

/-! Proofs. A frame bit by bit (R91 to R94, R132 to R139): LineState after each bit of eleven, at one time or clocked with gaps. -/

namespace Sys2Proof.Machine

/-! ### What the bits of a frame build up -/

/-- `rx_data` after `k` bits behind the start bit of `w` (R134). -/
def partialByte (w : BitVec 11) : Nat → Byte
  | 0 => 0x00
  | k + 1 => setBit (partialByte w k) k (w.getLsbD (k + 1))

/-- `rx_parity` after `k` bits behind the start bit of `w` (R134, R135). -/
def partialParity (w : BitVec 11) : Nat → Bool
  | 0 => false
  | k + 1 => parityStep (partialParity w k) (w.getLsbD (k + 1))

theorem partialByte_bit (w : BitVec 11) (k : Nat) {j : Nat} (hj : j < 8) :
    (partialByte w k).getLsbD j = (decide (j < k) && w.getLsbD (j + 1)) := by
  induction k with
  | zero => simp [partialByte]
  | succ k ih =>
    rw [partialByte, setBit_bit _ _ _ hj, ih]
    by_cases hjk : j = k
    · simp [hjk]
    · have hlt : j < k + 1 ↔ j < k := by omega
      simp [hjk, hlt]

theorem frameByte_bit (w : BitVec 11) {j : Nat} (hj : j < 8) : (frameByte w).getLsbD j = w.getLsbD (j + 1) := by
  simp [frameByte, hj, Nat.add_comm]

/-- Eight data bits are the byte; the parity bit behind them leaves it. -/
theorem partialByte_of_eight_le (w : BitVec 11) {k : Nat} (hk : 8 ≤ k) : partialByte w k = frameByte w := by
  refine BitVec.eq_of_getLsbD_eq fun j hj => ?_
  have hlt : j < k := by omega
  rw [partialByte_bit w k hj, frameByte_bit w hj, decide_eq_true hlt, Bool.true_and]

/-- Nine bits behind the start bit have the parity that the frame is judged by (R93). -/
theorem partialParity_nine (w : BitVec 11) : partialParity w 9 = frameParityOk w := by
  simp (disch := decide) only [partialParity, parityStep, frameParityOk, xorByte, frameByte_bit, Bool.false_xor,
    Nat.reduceAdd]

/-! ### LineState in a frame -/

/-- The start bit of `w` and the `k` bits behind it have been accepted, the last one now. -/
def received (w : BitVec 11) (k : Nat) (s : State) : State :=
  { s with rx := {
      bitCount := BitVec.ofNat 4 (k + 1)
      data := partialByte w k
      parity := partialParity w k
      lastBitTime := s.env.msNow
      suppressed := s.rx.suppressed } }

@[simp] theorem received_cfg (w : BitVec 11) (k : Nat) (s : State) : (received w k s).cfg = s.cfg := rfl
@[simp] theorem received_env (w : BitVec 11) (k : Nat) (s : State) : (received w k s).env = s.env := rfl
@[simp] theorem received_suppressed (w : BitVec 11) (k : Nat) (s : State) :
    (received w k s).rx.suppressed = s.rx.suppressed := rfl

theorem received_count (w : BitVec 11) {k : Nat} (hk : k ≤ 9) (s : State) :
    (received w k s).rx.bitCount.toNat = k + 1 :=
  (BitVec.toNat_ofNat _ _).trans (Nat.mod_eq_of_lt (by omega))

/-- What the end of the frame `w` does, the stop bit accepted: the byte is queued, or a resend is requested (R136). -/
def judged (w : BitVec 11) (s : State) : State :=
  if stopValid (frameParityOk w) (w.getLsbD 10) then frameGood (frameByte w) s
  else frameBad (frameByte w) (!frameParityOk w) (!w.getLsbD 10) s

/-- The state at the stop bit, now, before the verdict. -/
def stopped (w : BitVec 11) (s : State) : State :=
  { s with rx := {
      bitCount := 0
      data := frameByte w
      parity := frameParityOk w
      lastBitTime := s.env.msNow
      suppressed := s.rx.suppressed } }

@[simp] theorem stopped_count (w : BitVec 11) (s : State) : (stopped w s).rx.bitCount = 0 := rfl
@[simp] theorem stopped_suppressed (w : BitVec 11) (s : State) : (stopped w s).rx.suppressed = s.rx.suppressed := rfl

theorem rxDispatch_start (w : BitVec 11) {s : State} (hcount : s.rx.bitCount = 0) :
    rxDispatch false s = .next (received w 0 s) := by
  simp only [rxDispatch, hcount]
  rfl

section
variable {w : BitVec 11} {k : Nat} {s u : State}
  (hcount : s.rx.bitCount.toNat = k + 1) (hdata : s.rx.data = partialByte w k) (hparity : s.rx.parity = partialParity w k)
include hcount hdata hparity

/-- Bit `k + 1` of a frame, on a receiver that has the bits before it. -/
theorem rxDispatch_bit (hk : k ≤ 8) : rxDispatch (w.getLsbD (k + 1)) s = .next (received w (k + 1) s) := by
  have hne : s.rx.bitCount.toNat ≠ 0 := by omega
  unfold rxDispatch
  rw [if_neg hne]
  obtain hk | rfl : k ≤ 7 ∨ k = 8 := by omega
  · have hcount' : s.rx.bitCount + 1 = BitVec.ofNat 4 (k + 1 + 1) := by
      apply BitVec.eq_of_toNat_eq
      rw [bitCount_succ_toNat (by omega), BitVec.toNat_ofNat, Nat.mod_eq_of_lt (by omega), hcount]
    rw [if_pos (by omega)]
    simp only [execRxData, hcount', hcount, hdata, hparity]
    rfl
  · rw [if_neg (by omega), if_pos hcount]
    simp only [execRxParity, hparity]
    simp only [acceptBit, hdata, partialByte_of_eight_le w (Nat.le_refl 8)]
    rw [received, partialByte_of_eight_le w (by decide)]
    rfl

/-- The stop bit, on a receiver that has the ten bits before it. -/
theorem rxDispatch_stop (hk : k = 9) : rxDispatch (w.getLsbD 10) s = .next (judged w (stopped w s)) := by
  subst hk
  unfold rxDispatch
  rw [if_neg (by omega), if_neg (by omega), if_neg (by omega), if_pos (by omega)]
  rw [partialParity_nine] at hparity
  rw [partialByte_of_eight_le w (by decide)] at hdata
  have hstopped : acceptBit 0 s = stopped w s := by simp only [acceptBit, stopped, ← hdata, ← hparity]
  simp only [execRxStop, judged, hdata, hparity, hstopped]
  split <;> rfl

end

/-! ### What the verdict leaves -/

theorem judged_of_valid {w : BitVec 11} (h : frameValid w = true) (s : State) : judged w s = frameGood (frameByte w) s := by
  simp only [frameValid, Bool.and_eq_true] at h
  obtain ⟨⟨-, hparity⟩, hstop⟩ := h
  simp [judged, stopValid, hparity, hstop]

theorem judged_of_invalid {w : BitVec 11} (hstart : w.getLsbD 0 = false) (h : frameValid w = false) (s : State) :
    judged w s = frameBad (frameByte w) (!frameParityOk w) (!w.getLsbD 10) s := by
  have hverdict : stopValid (frameParityOk w) (w.getLsbD 10) = false := by
    simpa only [frameValid, hstart, Bool.not_false, Bool.true_and, Bool.and_comm (frameParityOk w), stopValid] using h
  simp only [judged, hverdict, Bool.false_eq_true, if_false]

@[simp] theorem judged_rx (w : BitVec 11) (s : State) : (judged w s).rx = s.rx := by
  unfold judged
  split <;> simp

@[simp] theorem judged_env (w : BitVec 11) (s : State) : (judged w s).env = s.env := by
  unfold judged
  split <;> simp

/-- Settles O22: Frame(b) has b, its parity bit and the two framing bits at the places that are read. -/
theorem frameOfAByteIsValid : Obligations.FrameOfAByteIsValid := by
  unfold Obligations.FrameOfAByteIsValid
  decide +kernel

/-! ### Eleven edges at one time (R116 `rxframe`) -/

theorem elapsed_self (timeW t : Nat) : elapsed timeW t t = 0 := by
  have hle : t % 2 ^ timeW ≤ 2 ^ timeW := (Nat.mod_lt _ (Nat.two_pow_pos timeW)).le
  have hsplit : t + (2 ^ timeW - t % 2 ^ timeW) = 2 ^ timeW * (t / 2 ^ timeW) + 2 ^ timeW := by
    have := Nat.div_add_mod t (2 ^ timeW)
    omega
  rw [elapsed, hsplit, Nat.add_mod_right, Nat.mul_mod_right]

theorem rxStale_received (w : BitVec 11) (k : Nat) (s : State) : rxStale (received w k s) = received w k s :=
  rxStale_of_fresh (expired_eq_false.mpr ((elapsed_self s.cfg.timeW s.env.msNow).trans_le (Nat.zero_le _)))

/-- The bits of `w` from bit `k` on, as levels. -/
theorem frameBits_eq (w : BitVec 11) : frameBits w = (List.range' 0 11).map w.getLsbD := by
  rw [frameBits, List.range_eq_range']

section
variable {w : BitVec 11} {s : State} (hedge : s.cfg.rxImpl = .edge) (hsupp : s.rx.suppressed = false)
include hedge hsupp

theorem rxEdge_received (k : Nat) (d : Bool) : rxEdge d (received w k s) = rxDispatch d (received w k s) := by
  rw [rxEdge_of_enabled (s := received w k s) d hsupp hedge, rxStale_received]

theorem rxEdges_received {k m : Nat} (hkm : k + m = 9) :
    rxEdges ((List.range' (k + 1) (m + 1)).map w.getLsbD) (received w k s) = .next (judged w (stopped w s)) := by
  induction m generalizing k with
  | zero =>
    obtain rfl : k = 9 := hkm
    have hstop := rxDispatch_stop (received_count w (Nat.le_refl 9) s) rfl rfl rfl
    rw [List.range'_succ, List.map_cons, rxEdges, rxEdge_received hedge hsupp, hstop]
    rfl
  | succ m ih =>
    have hbit := rxDispatch_bit (received_count w (by omega) s) rfl rfl (by omega : k ≤ 8)
    rw [List.range'_succ, List.map_cons, rxEdges, rxEdge_received hedge hsupp, hbit]
    exact ih (by omega)

/-- Eleven bits with start 0 on an idle enabled receiver are judged as one frame. -/
theorem rxEdges_frame (hcount : s.rx.bitCount = 0) (hstart : w.getLsbD 0 = false) :
    rxEdges (frameBits w) s = .next (judged w (stopped w s)) := by
  rw [frameBits_eq, List.range'_succ, List.map_cons, rxEdges, rxEdge_of_enabled _ hsupp hedge, rxStale_of_zero hcount,
    hstart, rxDispatch_start w hcount]
  exact rxEdges_received hedge hsupp rfl

end

theorem frameGood_queued {s : State} (hq : QueueInv s) (b : Byte) :
    (frameGood b s).queued = if s.queueFull then s.queued else s.queued ++ [b] :=
  queued_push_cases hq b

/-- Settles O30: the eleven edges end in the verdict on the frame; without a start bit they only answer. -/
theorem elevenBitsAreJudgedAsAFrame : Obligations.ElevenBitsAreJudgedAsAFrame := by
  unfold Obligations.ElevenBitsAreJudgedAsAFrame
  intro s w hedge hq hsupp hcount
  have hexec : exec (.frame11 w) s = rxEdges (frameBits w) s := by simp only [exec, execFrame11, hedge]
  have hq0 : QueueInv (stopped w s) := hq.of_eq rfl rfl
  rw [hexec]
  cases hstart : w.getLsbD 0 with
  | true =>
    obtain ⟨t, ht⟩ := rxEdges_next (frameBits w) hedge (by rw [hcount]; exact Nat.zero_le _)
    exact ⟨t, ht, (rxEdges_receiverFrame _ s t ht).suppressed_eq.trans hsupp, fun h => by cases h⟩
  | false =>
    refine ⟨_, rxEdges_frame hedge hsupp hcount hstart, by simpa using hsupp, fun _ => ⟨by simp, ?_, ?_⟩⟩
    · intro hvalid
      rw [judged_of_valid hvalid]
      exact ⟨rfl, frameGood_queued hq0 _⟩
    · intro hinvalid
      rw [judged_of_invalid hstart hinvalid]
      exact ⟨rfl, frameBad_q _ _ _ _⟩

/-- Settles O31: the peripheral judges a whole frame by the same verdict, and has no edge handler. -/
theorem thePeripheralContract : Obligations.ThePeripheralContract := by
  unfold Obligations.ThePeripheralContract
  intro s w hper hq
  have hexec : exec (.frame11 w) s = peripheralFrame w s := by simp only [exec, execFrame11, hper]
  have henabled (hsupp : s.rx.suppressed = false) (hstart : w.getLsbD 0 = false) :
      peripheralFrame w s = .next (judged w s) := by
    unfold peripheralFrame judged
    simp only [hsupp, hstart, Bool.false_eq_true, if_false, stopValid, Bool.and_comm (w.getLsbD 10)]
    split <;> rfl
  rw [hexec]
  refine ⟨fun hsupp => by simp [peripheralFrame, hsupp], fun hsupp hstart hvalid => ?_, fun hsupp hstart hinvalid => ?_,
    fun hsupp => ?_⟩
  · refine ⟨_, henabled hsupp hstart, ?_⟩
    rw [judged_of_valid hvalid]
    refine ⟨?_, frameGood_queued hq _⟩
    unfold frameGood queuePush
    split <;> rfl
  · refine ⟨_, henabled hsupp hstart, ?_⟩
    rw [judged_of_invalid hstart hinvalid]
    exact frameBad_frame _ _ _ s
  · simp [exec, execRxStep, rxEdge, hsupp, hper]

end Sys2Proof.Machine

/-! Proofs. Time (R84), runs under a schedule, and the frame that DEV clocks with gaps (R139). -/

namespace Sys2Proof.Machine

/-! ### Elapsed time -/

/-- The clock's advance is what elapsed, modulo its width, whether or not it wrapped. -/
theorem elapsed_advance (timeW t n : Nat) : elapsed timeW t ((t + n) % 2 ^ timeW) = n % 2 ^ timeW := by
  have hle : t % 2 ^ timeW ≤ 2 ^ timeW := (Nat.mod_lt _ (Nat.two_pow_pos timeW)).le
  have hsplit : t + n + (2 ^ timeW - t % 2 ^ timeW) = n + 2 ^ timeW * (t / 2 ^ timeW + 1) := by
    have hdiv := Nat.div_add_mod t (2 ^ timeW)
    rw [Nat.mul_succ]
    omega
  rw [elapsed, Nat.mod_add_mod, hsplit, Nat.add_mul_mod_self_left]

/-- Settles O60: `advance` adds to the clock modulo its width. -/
theorem elapsedTimeSurvivesTheWrap : Obligations.ElapsedTimeSurvivesTheWrap := by
  unfold Obligations.ElapsedTimeSurvivesTheWrap
  exact fun s n => elapsed_advance s.cfg.timeW s.env.msNow n

/-! ### Runs -/

theorem run_of_step {s t : State} (h : step s = .next t) (n : Nat) : run (n + 1) s = run n t := by
  simp only [run, h, andThen_of_next]

theorem run_add (m n : Nat) (s : State) : run (m + n) s = andThen (run m s) (run n) := by
  induction m generalizing s with
  | zero => rw [Nat.zero_add]; rfl
  | succ m ih =>
    rw [Nat.succ_add, run, run]
    cases step s with
    | next t => exact ih t
    | fault r => rfl
    | refused r => rfl

theorem run_add_of_next {m : Nat} {s t : State} (h : run m s = .next t) (n : Nat) : run (m + n) s = run n t := by
  rw [run_add, h, andThen_of_next]

theorem withInputs_self (s : State) : s.withInputs s.env.inputs = s := rfl

theorem step_of_inputs {s : State} (hwf : s.cfg.wf = true) {x : Stimulus} {rest : List Stimulus}
    (h : s.env.inputs = x :: rest) : step s = applyStimulus x (s.withInputs rest) := by
  conv_lhs => rw [← withInputs_self s, h]
  exact step_withInputs hwf x rest

theorem takeEdge_of_fall {s t : State} (hbefore : s.clk = true) (hafter : t.clk = false) :
    takeEdge s t = exec .rxStep t := by
  simp [takeEdge, hbefore, hafter]

/-! ### One clocked bit (R116 `edge`) -/

/-- The state in which the handler finds the edge of a bit `d` clocked after `gap` ms. -/
def atClockedEdge (gap : Nat) (d : Bool) (rest : List Stimulus) (s : State) : State :=
  setDev true (!d) ((advance gap s).withInputs (.dev false (!d) :: rest))

theorem run_clockBit {s t : State} {gap : Nat} {d : Bool} {rest : List Stimulus} (hwf : s.cfg.wf = true)
    (hedge : s.cfg.rxImpl = .edge) (henabled : s.rx.suppressed = false)
    (hdrive : s.drive = { clkLow := false, dataLow := false }) (hclock : s.env.devClkLow = false)
    (hin : s.env.inputs = clockBit gap d ++ rest)
    (hbit : rxDispatch d (rxStale (atClockedEdge gap d rest s)) = .next t) :
    run 3 s = .next (setDev false (!d) (t.withInputs rest)) := by
  have hwait : step s = .next ((advance gap s).withInputs (.dev true (!d) :: .dev false (!d) :: rest)) :=
    step_of_inputs hwf hin
  have hfall : step ((advance gap s).withInputs (.dev true (!d) :: .dev false (!d) :: rest)) = .next t := by
    have hhigh : ((advance gap s).withInputs (.dev false (!d) :: rest)).clk = true := by simp [State.clk, hdrive, hclock]
    have hlow : (atClockedEdge gap d rest s).clk = false := by simp [State.clk, atClockedEdge]
    have hlevel : (atClockedEdge gap d rest s).data = d := by simp [State.data, atClockedEdge, hdrive]
    have hrise : takeEdge ((advance gap s).withInputs (.dev false (!d) :: rest)) (atClockedEdge gap d rest s) =
        rxEdge d (atClockedEdge gap d rest s) := by
      rw [takeEdge_of_fall hhigh hlow]
      simp only [exec, execRxStep, hlevel]
    have henabled' : (atClockedEdge gap d rest s).rx.suppressed = false := henabled
    rw [step_withInputs (s := advance gap s) hwf]
    exact hrise.trans ((rxEdge_of_enabled d henabled' hedge).trans hbit)
  have hframe : ReceiverFrame (atClockedEdge gap d rest s) t :=
    ((rxDispatch_receiverFrame d _).mono fun _ => (rxStale_receiverFrame _).trans) t hbit
  have hcfg : t.cfg = s.cfg := hframe.cfg_eq
  have hrelease : step t = .next (setDev false (!d) (t.withInputs rest)) := by
    rw [step_of_inputs (hcfg ▸ hwf) (congrArg Env.inputs hframe.env_eq)]
    exact takeEdge_of_clk (.inr (by simp [State.clk, hframe.drive_eq, atClockedEdge, hdrive]))
  rw [run_of_step hwait, run_of_step hfall, run_of_step hrelease]
  rfl

/-! ### A clocked frame -/

/-- From `s` DEV has clocked the start bit of `w` and `k` bits more to `t`, the last one now. -/
structure Receiving (w : BitVec 11) (k : Nat) (s t : State) : Prop where
  frame : t = { s with env := t.env, rx := t.rx }
  count : t.rx.bitCount.toNat = k + 1
  data : t.rx.data = partialByte w k
  parity : t.rx.parity = partialParity w k
  fresh : t.rx.lastBitTime = t.env.msNow
  enabled : t.rx.suppressed = false
  clock : t.env.devClkLow = false

theorem Receiving.cfg_eq {w : BitVec 11} {k : Nat} {s t : State} (h : Receiving w k s t) : t.cfg = s.cfg :=
  by rw [h.frame]

theorem Receiving.drive_eq {w : BitVec 11} {k : Nat} {s t : State} (h : Receiving w k s t) : t.drive = s.drive :=
  by rw [h.frame]

/-- A gap within the limit does not make the frame stale: the bit finds LineState as the last bit left it. -/
theorem rxStale_atClockedEdge {w : BitVec 11} {k gap : Nat} {d : Bool} {rest : List Stimulus} {s t : State}
    (h : Receiving w k s t)
    (hgap : gap ≤ s.cfg.tStaleMs) : rxStale (atClockedEdge gap d rest t) = atClockedEdge gap d rest t := by
  refine rxStale_of_fresh (expired_eq_false.mpr ?_)
  calc elapsed t.cfg.timeW t.rx.lastBitTime ((t.env.msNow + gap) % 2 ^ t.cfg.timeW)
      = gap % 2 ^ t.cfg.timeW := by rw [h.fresh, elapsed_advance]
    _ ≤ gap := Nat.mod_le _ _
    _ ≤ t.cfg.tStaleMs := by rw [h.cfg_eq]; exact hgap

theorem Receiving.q_eq {w : BitVec 11} {k : Nat} {s t : State} (h : Receiving w k s t) : t.q = s.q := by rw [h.frame]

theorem queueFull_of_eq {s t : State} (hcfg : t.cfg = s.cfg) (hq : t.q = s.q) : t.queueFull = s.queueFull := by
  simp only [State.queueFull, hcfg, hq]

theorem start_of_frameValid {w : BitVec 11} (h : frameValid w = true) : w.getLsbD 0 = false := by
  simp only [frameValid, Bool.and_eq_true, Bool.not_eq_true'] at h
  exact h.1.1

section
variable {w : BitVec 11} {s : State} (hwf : s.cfg.wf = true) (hedge : s.cfg.rxImpl = .edge)
  (hdrive : s.drive = { clkLow := false, dataLow := false })
include hwf hedge hdrive

theorem run_startBit {gap : Nat} {rest : List Stimulus} (hcount : s.rx.bitCount = 0) (henabled : s.rx.suppressed = false)
    (hclock : s.env.devClkLow = false) (hin : s.env.inputs = clockBit gap false ++ rest) :
    ∃ t, run 3 s = .next t ∧ Receiving w 0 s t ∧ t.env.inputs = rest := by
  have hbit : rxDispatch false (rxStale (atClockedEdge gap false rest s)) =
      .next (received w 0 (atClockedEdge gap false rest s)) := by
    rw [rxStale_of_zero (s := atClockedEdge gap false rest s) hcount]
    exact rxDispatch_start w hcount
  exact ⟨_, run_clockBit hwf hedge henabled hdrive hclock hin hbit,
    ⟨rfl, rfl, rfl, rfl, rfl, henabled, rfl⟩, rfl⟩

theorem run_nextBit {k gap : Nat} {rest : List Stimulus} {t : State} (h : Receiving w k s t) (hk : k ≤ 8)
    (hgap : gap ≤ s.cfg.tStaleMs) (hin : t.env.inputs = clockBit gap (w.getLsbD (k + 1)) ++ rest) :
    ∃ u, run 3 t = .next u ∧ Receiving w (k + 1) s u ∧ u.env.inputs = rest := by
  have hbit := rxDispatch_bit (s := atClockedEdge gap (w.getLsbD (k + 1)) rest t) h.count h.data h.parity hk
  rw [← rxStale_atClockedEdge h hgap] at hbit
  refine ⟨_, run_clockBit (h.cfg_eq ▸ hwf) (h.cfg_eq ▸ hedge) h.enabled (h.drive_eq.trans hdrive) h.clock hin hbit,
    ⟨?_, ?_, rfl, rfl, ?_, ?_, rfl⟩, rfl⟩
  · rw [rxStale_atClockedEdge h hgap]
    rw [h.frame]
    rfl
  · exact received_count w (by omega) _
  · rw [rxStale_atClockedEdge h hgap]
    rfl
  · rw [rxStale_atClockedEdge h hgap]
    exact h.enabled

theorem run_nextBits {k m : Nat} (hkm : k + m = 9) {gaps : List Nat} {rest : List Stimulus} {t : State}
    (h : Receiving w k s t) (hlen : gaps.length = m + 1) (hgaps : ∀ g ∈ gaps, g ≤ s.cfg.tStaleMs)
    (hin : t.env.inputs = clockBits gaps ((List.range' (k + 1) (m + 1)).map w.getLsbD) ++ rest) :
    ∃ u g, run (3 * m) t = .next u ∧ Receiving w 9 s u ∧ g ≤ s.cfg.tStaleMs ∧
      u.env.inputs = clockBit g (w.getLsbD 10) ++ rest := by
  induction m generalizing k gaps t with
  | zero =>
    obtain rfl : k = 9 := hkm
    obtain ⟨g, rfl⟩ := List.length_eq_one_iff.mp hlen
    exact ⟨t, g, rfl, h, hgaps g (List.mem_singleton_self g), by simpa [clockBits] using hin⟩
  | succ m ih =>
    obtain ⟨g, gs, rfl⟩ := List.exists_cons_of_length_eq_add_one hlen
    rw [List.range'_succ, List.map_cons, clockBits, List.append_assoc] at hin
    obtain ⟨u, hrun, hu, hrest⟩ := run_nextBit hwf hedge hdrive h (by omega) (hgaps g List.mem_cons_self) hin
    obtain ⟨v, g', hrun', hv⟩ := ih (by omega) hu (Nat.succ.inj hlen) (fun x hx => hgaps x (List.mem_cons_of_mem g hx)) hrest
    refine ⟨v, g', ?_, hv⟩
    rw [Nat.mul_succ, Nat.add_comm, run_add_of_next hrun, hrun']

/-- The stop bit of a valid frame: its byte goes to the end of the queue. -/
theorem run_stopBit (hvalid : frameValid w = true) {gap : Nat} {rest : List Stimulus} {t : State} (h : Receiving w 9 s t)
    (hgap : gap ≤ s.cfg.tStaleMs) (hin : t.env.inputs = clockBit gap (w.getLsbD 10) ++ rest) :
    run 3 t = .next (setDev false (!w.getLsbD 10)
      ((frameGood (frameByte w) (stopped w (atClockedEdge gap (w.getLsbD 10) rest t))).withInputs rest)) := by
  have hbit := rxDispatch_stop (s := atClockedEdge gap (w.getLsbD 10) rest t) h.count h.data h.parity rfl
  rw [judged_of_valid hvalid] at hbit
  exact run_clockBit (h.cfg_eq ▸ hwf) (h.cfg_eq ▸ hedge) h.enabled (h.drive_eq.trans hdrive) h.clock hin
    ((congrArg _ (rxStale_atClockedEdge h hgap)).trans hbit)

/-- The whole frame, three steps a bit: `w`'s byte is at the end of the queue, and only LineState, the ring, the flag and the
inputs have changed. -/
theorem run_validFrame (hvalid : frameValid w = true) (hq : QueueInv s) (hroom : s.queueFull = false)
    (hcount : s.rx.bitCount = 0) (henabled : s.rx.suppressed = false) (hclock : s.env.devClkLow = false)
    {gaps : List Nat} {rest : List Stimulus} (hlen : gaps.length = 11) (hgaps : ∀ g ∈ gaps.tail, g ≤ s.cfg.tStaleMs)
    (hin : s.env.inputs = clockBits gaps (frameBits w) ++ rest) :
    ∃ t, run 33 s = .next t ∧ t.queued = s.queued ++ [frameByte w] ∧ t.rx.bitCount = 0 ∧ t.rx.data = frameByte w ∧
      t.resendRequest = false ∧ t.env.inputs = rest ∧
      t = { s with env := t.env, rx := t.rx, q := t.q, resendRequest := t.resendRequest } := by
  obtain ⟨g, gs, rfl⟩ := List.exists_cons_of_length_eq_add_one hlen
  rw [frameBits_eq, List.range'_succ, List.map_cons, start_of_frameValid hvalid, clockBits, List.append_assoc] at hin
  obtain ⟨t, hrun, ht, hin⟩ := run_startBit (w := w) hwf hedge hdrive hcount henabled hclock hin
  obtain ⟨u, g', hrun', hu, hg', hin⟩ := run_nextBits hwf hedge hdrive (m := 9) rfl ht (Nat.succ.inj hlen) hgaps hin
  have hrun33 := (run_add_of_next hrun 30).trans
    ((run_add_of_next hrun' 3).trans (run_stopBit hwf hedge hdrive hvalid hu hg' hin))
  have hroom' : (stopped w (atClockedEdge g' (w.getLsbD 10) rest u)).queueFull = false :=
    (queueFull_of_eq hu.cfg_eq hu.q_eq).trans hroom
  refine ⟨_, hrun33, ?queued, by simp, by simp [stopped], rfl, rfl, ?frame⟩
  case queued =>
    have hinv : QueueInv (stopped w (atClockedEdge g' (w.getLsbD 10) rest u)) := hq.of_eq hu.cfg_eq hu.q_eq
    have hkept := queued_of_eq (s := s) (t := stopped w (atClockedEdge g' (w.getLsbD 10) rest u)) hu.cfg_eq hu.q_eq
    rw [← hkept]
    exact queued_push hinv hroom' (frameByte w)
  case frame =>
    rw [frameGood, queuePush_of_room hroom', hu.frame]
    rfl

end

/-- Settles O29: Frame(b) is a valid frame with the byte b. -/
theorem aGoodFrameReachesTheQueue : Obligations.AGoodFrameReachesTheQueue := by
  unfold Obligations.AGoodFrameReachesTheQueue
  intro s b gaps rest hwf hedge hq henabled hcount hdrive hclock hroom hlen hgaps
  obtain ⟨hvalid, hbyte, -⟩ := frameOfAByteIsValid b
  have h := run_validFrame (s := s.withInputs (clockBits gaps (frameBits (frameOf b)) ++ rest)) hwf hedge hdrive hvalid
    (hq.of_eq rfl rfl) hroom hcount henabled hclock hlen hgaps rfl
  rwa [hbyte] at h

end Sys2Proof.Machine

/-! Proofs. The invariant of R58 under each update of the state, then under the operations of the receiver and of FG. Each lemma
names the clauses that the update touches; the others are carried over. -/

namespace Sys2Proof.Machine

/-! ### Outcomes that answer -/

/-- The outcome is a next state, and that state satisfies `P`. -/
def Answers (P : State → Prop) (o : Outcome) : Prop := ∃ t, o = .next t ∧ P t

section
variable {P Q : State → Prop} {o : Outcome}

@[simp] theorem answers_next {t : State} : Answers P (.next t) ↔ P t := by simp [Answers]

@[simp] theorem answers_ite {c : Prop} [Decidable c] {o' : Outcome} :
    Answers P (if c then o else o') ↔ (c → Answers P o) ∧ (¬ c → Answers P o') := by
  split_ifs with h <;> simp [h]

theorem Answers.leads (h : Answers P o) : Leads P o := by
  obtain ⟨t, rfl, ht⟩ := h
  exact leads_next.mpr ht

end

/-! ### What no invariant reads -/

/-- From `s` to `t` only elements that no clause of the invariant reads may differ. -/
def UnreadFrame (s t : State) : Prop :=
  t = { s with
    env := { t.env with msNow := s.env.msNow }
    rx := { t.rx with bitCount := s.rx.bitCount, lastBitTime := s.rx.lastBitTime, suppressed := s.rx.suppressed }
    resendRequest := t.resendRequest
    built := t.built
    ledPending := t.ledPending
    ledUsb := t.ledUsb
    edgeLatched := t.edgeLatched
    out := { t.out with reports := s.out.reports } }

theorem Inv.congr {s t : State} (h : Inv s) (e : UnreadFrame s t) : Inv t := by
  unfold UnreadFrame at e
  rw [e]
  exact {
    cfg_wf := h.cfg_wf
    line := { h.line with }
    queue := { h.queue with }
    matrix := { h.matrix with }
    control := { h.control with }
    index := { h.index with }
    time := { h.time with }
    report := { h.report with } }

/-! ### The receiver -/

theorem Inv.setQueue {s : State} (h : Inv s) {q : Queue} (hq : QueueInv { s with q := q }) : Inv { s with q := q } where
  cfg_wf := h.cfg_wf
  line := { h.line with }
  queue := hq
  matrix := { h.matrix with }
  control := { h.control with }
  index := { h.index with }
  time := { h.time with }
  report := { h.report with }

theorem Inv.setCount {s : State} (h : Inv s) {n : BitVec 4} (hn : n.toNat ≤ 10) (hzero : s.rx.suppressed = true → n = 0) :
    Inv { s with rx := { s.rx with bitCount := n } } where
  cfg_wf := h.cfg_wf
  line := { h.line with bitCount_le := hn, suppressed_at_zero := hzero }
  queue := { h.queue with }
  matrix := { h.matrix with }
  control := { h.control with }
  index := { h.index with }
  time := { h.time with }
  report := { h.report with }

theorem Inv.setLastBitTime {s : State} (h : Inv s) : Inv { s with rx := { s.rx with lastBitTime := s.env.msNow } } where
  cfg_wf := h.cfg_wf
  line := { h.line with }
  queue := { h.queue with }
  matrix := { h.matrix with }
  control := { h.control with }
  index := { h.index with }
  time := { h.time with bit_lt := h.time.now_lt }
  report := { h.report with }

theorem Inv.acceptBit {s : State} (h : Inv s) (henabled : s.rx.suppressed = false) {n : BitVec 4} (hn : n.toNat ≤ 10) :
    Inv (acceptBit n s) :=
  h.setLastBitTime.setCount hn (fun hsupp => by simp [henabled] at hsupp)

theorem Inv.rxStale {s : State} (h : Inv s) : Inv (rxStale s) := by
  obtain hsame | ⟨-, -, hstale⟩ := rxStale_cases s
  · rwa [hsame]
  · rw [hstale]
    exact (h.setCount (n := 0) (Nat.zero_le _) fun _ => rfl).congr rfl

theorem Inv.queuePush {s : State} (h : Inv s) (b : Byte) : Inv (queuePush b s) := by
  have hq := queuePush_inv h.queue b
  cases hfull : s.queueFull with
  | true =>
    rw [queuePush_of_full hfull]
    exact h.congr rfl
  | false =>
    rw [queuePush_of_room hfull] at hq ⊢
    exact h.setQueue hq

theorem Inv.queueDrop {s : State} (h : Inv s) : Inv (queueDrop s) := by
  have hq := queueDrop_inv h.queue
  cases hempty : s.queueEmpty with
  | true => rwa [queueDrop_of_empty hempty]
  | false =>
    rw [queueDrop_of_some hempty] at hq ⊢
    exact h.setQueue hq

theorem Inv.frameGood {s : State} (h : Inv s) (b : Byte) : Inv (frameGood b s) :=
  (h.queuePush b).congr rfl

theorem Inv.frameBad {s : State} (h : Inv s) (b : Byte) (p d : Bool) : Inv (frameBad b p d s) := by
  cases p <;> cases d <;> exact h.congr rfl

theorem rxDispatch_inv (d : Bool) {s : State} (h : Inv s) (henabled : s.rx.suppressed = false) :
    Leads Inv (rxDispatch d s) := by
  unfold rxDispatch
  split_ifs with h0 hd h8 h9 h10
  · exact leads_next.mpr h
  · exact leads_next.mpr ((h.acceptBit henabled (n := 1) (by decide)).congr rfl)
  · have hn : (s.rx.bitCount + 1).toNat ≤ 10 := by
      rw [bitCount_succ_toNat h8]
      omega
    exact leads_next.mpr ((h.acceptBit henabled hn).congr rfl)
  · exact leads_next.mpr ((h.acceptBit henabled (n := 10) (by decide)).congr rfl)
  · have hend := h.acceptBit henabled (n := 0) (Nat.zero_le _)
    unfold execRxStop
    split_ifs
    · exact leads_next.mpr (hend.frameGood _)
    · exact leads_next.mpr (hend.frameBad _ _ _)
  · simp

theorem rxEdge_inv (d : Bool) {s : State} (h : Inv s) : Leads Inv (rxEdge d s) := by
  unfold rxEdge
  split
  · exact leads_next.mpr h
  · next henabled =>
    split
    · exact rxDispatch_inv d h.rxStale (by simpa using henabled)
    · simp

theorem rxEdges_inv (ds : List Bool) {s : State} (h : Inv s) : Leads Inv (rxEdges ds s) := by
  induction ds generalizing s with
  | nil => exact leads_next.mpr h
  | cons d rest ih => exact (rxEdge_inv d h).andThen fun _ => ih

theorem execFrame11_inv (w : BitVec 11) {s : State} (h : Inv s) : Leads Inv (execFrame11 w s) := by
  unfold execFrame11
  split
  · exact rxEdges_inv _ h
  · unfold peripheralFrame
    split_ifs
    · exact leads_next.mpr h
    · simp
    · exact leads_next.mpr (h.frameGood _)
    · exact leads_next.mpr (h.frameBad _ _ _)

/-! ### The write path -/

theorem TxPhase.quiet_eq (p : TxPhase) : p.quiet = !p.suppressing := by cases p <;> rfl

theorem TxPhase.suppressing_of_rest {p : TxPhase} (h : p.atRest = true) : p.suppressing = false := by
  cases p with
  | idle | done => rfl
  | _ => cases h

theorem TxPhase.ne_idle_of_running {p : TxPhase} (h : p.atRest = false) : p ≠ .idle := by
  rintro rfl
  cases h

/-- A write runs only inside an S.CMD or S.RESEND, so line initialization is over. -/
theorem ControlInv.not_boot_of_running {s : State} (h : ControlInv s) (hrun : s.tx.phase.atRest = false) : s.fg ≠ .boot := by
  intro hboot
  obtain hsend | hwait := h.write_called hrun
  · have hin := h.cmd_inside (by simp [hsend])
    simp [hboot, FgPos.inCmd] at hin
  · simp [hboot] at hwait

theorem ControlInv.due_of_running {s : State} (h : ControlInv s) (hrun : s.tx.phase.atRest = false) :
    s.cmd.writeDue = false := by
  refine Bool.eq_false_iff.mpr fun hdue => ?_
  have hrest := (h.due_sending hdue).2
  simp [hrun] at hrest

/-- From `s` to `t` only the write path, the lines, LineState and the fault log may differ: what a poll of a write writes. -/
def PollFrame (s t : State) : Prop :=
  t = { s with
    drive := t.drive
    rx := t.rx
    tx := t.tx
    edgeLatched := t.edgeLatched
    out := { t.out with reports := s.out.reports } }

theorem Inv.of_poll {s t : State} (h : Inv s) (hrun : s.tx.phase.atRest = false) (hframe : PollFrame s t)
    (hphase : t.tx.phase ≠ .idle) (hline : LineInv t) (hindex : IndexInv t) (htime : TimeInv t) : Inv t := by
  unfold PollFrame at hframe
  have hdue := h.control.due_of_running hrun
  have hcontrol : ControlInv { s with tx := t.tx } := { h.control with
    due_sending := fun hd => by simp [hdue] at hd
    write_called := fun _ => h.control.write_called hrun
    write_awaited := fun _ _ => hphase
    resend_awaited := fun _ => hphase
    reply_at_rest := fun hw => by
      have hrest := h.control.reply_at_rest hw
      simp [hrun] at hrest }
  refine ⟨?_, hline, ?_, ?_, ?_, hindex, htime, ?_⟩ <;> rw [hframe]
  · exact h.cfg_wf
  · exact { h.queue with }
  · exact { h.matrix with }
  · exact { hcontrol with }
  · exact { h.report with }

theorem Inv.txFinish {s : State} (h : Inv s) (hrun : s.tx.phase.atRest = false) (ok : Bool) : Inv (txFinish ok s) :=
  h.of_poll hrun rfl (by simp)
    { h.line with
      lines_released := fun _ => ⟨rfl, rfl⟩
      suppressed_iff := by simp [TxPhase.suppressing, h.control.not_boot_of_running hrun]
      suppressed_at_zero := by simp }
    { h.index with low_lt := by simp, high_pos := by simp, ack_ten := by simp }
    { h.time with }

theorem Inv.txFail {s : State} (h : Inv s) (hrun : s.tx.phase.atRest = false) (f : TxFault) : Inv (txFail f s) :=
  (h.congr (t := s.raise (.txFault f)) rfl).txFinish hrun false

theorem Inv.setTxPhase {s : State} (h : Inv s) (hrun : s.tx.phase.atRest = false) {p : TxPhase} (hp : p ≠ .idle)
    (hsame : p.suppressing = s.tx.phase.suppressing) (hindex : IndexInv (setTxPhase p s)) : Inv (setTxPhase p s) :=
  h.of_poll hrun rfl hp
    { h.line with
      lines_released := fun hquiet => h.line.lines_released (by
        rw [setTxPhase_tx_phase] at hquiet
        rwa [TxPhase.quiet_eq, ← hsame, ← TxPhase.quiet_eq])
      suppressed_iff := by simpa [hsame] using h.line.suppressed_iff }
    hindex
    { h.time with }

theorem index_succ_toNat {k : BitVec 4} (hk : k.toNat < 10) : (k + 1).toNat = k.toNat + 1 :=
  BitVec.toNat_add_of_lt (Nat.lt_of_lt_of_le (Nat.succ_lt_succ hk) (by decide))

theorem busIdle_count {s : State} (h : busIdle s = true) : s.rx.bitCount = 0 := by
  simp only [busIdle, Bool.and_eq_true, decide_eq_true_eq] at h
  exact h.2

section
variable {s : State} (h : Inv s)
include h

theorem execTxWaitIdle_inv (hphase : s.tx.phase = .waitIdle) : Answers Inv (execTxWaitIdle s) := by
  have hs := h.rxStale
  have hrun : (rxStale s).tx.phase.atRest = false := by simp [hphase, TxPhase.atRest]
  simp only [execTxWaitIdle, answers_ite, answers_next]
  refine ⟨fun _ => ?_, fun _ => ⟨fun _ => hs.txFail hrun _, fun _ => hs⟩⟩
  exact hs.setTxPhase hrun (by simp) (by simp [hphase, TxPhase.suppressing])
    { hs.index with low_lt := by simp, high_pos := by simp, ack_ten := by simp }

theorem execTxSettle_inv (hphase : s.tx.phase = .settle) : Answers Inv (execTxSettle s) := by
  have hs := h.rxStale
  have hrun : (rxStale s).tx.phase.atRest = false := by simp [hphase, TxPhase.atRest]
  simp only [execTxSettle, answers_ite, answers_next]
  refine ⟨fun hidle => ?_, fun _ => ?_⟩
  · exact hs.of_poll hrun rfl (by simp)
      { hs.line with
        lines_released := by simp [TxPhase.quiet]
        suppressed_iff := by simp [TxPhase.suppressing]
        suppressed_at_zero := fun _ => busIdle_count hidle }
      { hs.index with low_lt := by simp, high_pos := by simp, ack_ten := by simp }
      { hs.time with }
  · exact hs.setTxPhase hrun (by simp) (by simp [hphase, TxPhase.suppressing])
      { hs.index with low_lt := by simp, high_pos := by simp, ack_ten := by simp }

theorem execTxInhibit_inv (hphase : s.tx.phase = .inhibit) : Answers Inv (execTxInhibit s) := by
  have hrun : s.tx.phase.atRest = false := by simp [hphase, TxPhase.atRest]
  have hiff := h.line.suppressed_iff
  rw [hphase] at hiff
  exact answers_next.mpr (h.of_poll hrun rfl (by simp)
    { h.line with lines_released := by simp [TxPhase.quiet], suppressed_iff := hiff }
    { h.index with low_lt := by simp, high_pos := by simp, ack_ten := by simp }
    { h.time with tx_lt := h.time.now_lt })

theorem execTxStart_inv (hphase : s.tx.phase = .start) : Answers Inv (execTxStart s) := by
  have hrun : s.tx.phase.atRest = false := by simp [hphase, TxPhase.atRest]
  have hiff := h.line.suppressed_iff
  rw [hphase] at hiff
  exact answers_next.mpr (h.of_poll hrun rfl (by simp)
    { h.line with lines_released := by simp [TxPhase.quiet], suppressed_iff := hiff }
    { index_le := by simp, low_lt := by simp, high_pos := by simp, ack_ten := by simp }
    { h.time with })

theorem execTxWaitLow_inv (hphase : s.tx.phase = .waitLow) : Answers Inv (execTxWaitLow s) := by
  have hrun : s.tx.phase.atRest = false := by simp [hphase, TxPhase.atRest]
  have hiff := h.line.suppressed_iff
  rw [hphase] at hiff
  have hlt := h.index.low_lt hphase
  have hsucc := index_succ_toNat hlt
  simp only [execTxWaitLow, answers_ite, answers_next]
  refine ⟨fun _ => ?_, fun _ => ⟨fun _ => h.txFail hrun _, fun _ => h⟩⟩
  exact h.of_poll hrun rfl (by simp)
    { h.line with lines_released := by simp [TxPhase.quiet], suppressed_iff := hiff }
    { index_le := hsucc.trans_le hlt
      low_lt := by simp
      high_pos := fun _ => (Nat.le_add_left 1 _).trans hsucc.ge
      ack_ten := by simp }
    { h.time with }

theorem execTxWaitHigh_inv (hphase : s.tx.phase = .waitHigh) : Answers Inv (execTxWaitHigh s) := by
  have hrun : s.tx.phase.atRest = false := by simp [hphase, TxPhase.atRest]
  have hle := h.index.index_le
  simp only [execTxWaitHigh, answers_ite, answers_next]
  refine ⟨fun _ => ?_, fun _ => ⟨fun _ => h.txFail hrun _, fun _ => h⟩⟩
  split
  next hlt =>
    exact h.setTxPhase hrun (by simp) (by simp [hphase, TxPhase.suppressing])
      { h.index with low_lt := fun _ => hlt, high_pos := by simp, ack_ten := by simp }
  next hge =>
    exact h.setTxPhase hrun (by simp) (by simp [hphase, TxPhase.suppressing])
      { h.index with
        low_lt := by simp
        high_pos := by simp
        ack_ten := fun _ => Nat.le_antisymm hle (Nat.not_lt.mp hge) }

theorem execTxAckWaitLow_inv (hphase : s.tx.phase = .ackWaitLow) : Answers Inv (execTxAckWaitLow s) := by
  have hrun : s.tx.phase.atRest = false := by simp [hphase, TxPhase.atRest]
  simp only [execTxAckWaitLow, answers_ite, answers_next]
  refine ⟨fun _ => ?_, fun _ => ⟨fun _ => h.txFail hrun _, fun _ => h⟩⟩
  unfold lineAck
  split
  · exact h.txFail hrun _
  · exact h.setTxPhase hrun (by simp) (by simp [hphase, TxPhase.suppressing])
      { h.index with low_lt := by simp, high_pos := by simp, ack_ten := fun _ => h.index.ack_ten (.inl hphase) }

theorem execTxAckWaitRelease_inv (hphase : s.tx.phase = .ackWaitRelease) : Answers Inv (execTxAckWaitRelease s) := by
  have hrun : s.tx.phase.atRest = false := by simp [hphase, TxPhase.atRest]
  simp only [execTxAckWaitRelease, answers_ite, answers_next]
  exact ⟨fun _ => h.txFinish hrun true, fun _ => ⟨fun _ => h.txFail hrun _, fun _ => h⟩⟩

/-- The poll of a running write answers, and keeps the invariant. -/
theorem exec_poll_inv {i : Instr} (hi : pollOf s.tx.phase = some i) : Answers Inv (exec i s) := by
  cases hphase : s.tx.phase <;> rw [hphase] at hi <;> cases hi
  · exact execTxWaitIdle_inv h hphase
  · exact execTxSettle_inv h hphase
  · exact execTxInhibit_inv h hphase
  · exact execTxStart_inv h hphase
  · exact execTxWaitLow_inv h hphase
  · exact execTxWaitHigh_inv h hphase
  · exact execTxAckWaitLow_inv h hphase
  · exact execTxAckWaitRelease_inv h hphase

end

end Sys2Proof.Machine

/-! Proofs. The invariant of R58 under FG's sequencers and under a step of the machine; what follows for a run: the edge-driven
build never stops, nothing is translated outside mode RUN. -/

namespace Sys2Proof.Machine

/-! ### A write begins -/

/-- The write path right after TX.WRITE(b) (R151). -/
def writeStarted (b : Byte) (s : State) : State :=
  { s with tx := { s.tx with byte := b, index := 0, t0 := s.env.msNow, phase := .waitIdle } }

theorem txBegin_of_rest {s : State} (hrest : s.tx.phase.atRest = true) (b : Byte) :
    txBegin b s = .next (writeStarted b s) := by
  simp only [txBegin, hrest, if_true]
  rfl

/-- A write begins from rest; who has called it, the control clauses of the new state say. -/
theorem txBegin_inv {s : State} (h : Inv s) (hrest : s.tx.phase.atRest = true) {b : Byte} {c : Cmd} {p : FgPos}
    (ht0 : c.t0 = s.cmd.t0) (hboot : p = .boot ↔ s.fg = .boot)
    (hcontrol : ControlInv (writeStarted b { s with cmd := c, fg := p })) :
    Answers Inv (txBegin b { s with cmd := c, fg := p }) :=
  ⟨_, txBegin_of_rest (s := { s with cmd := c, fg := p }) hrest b, {
    cfg_wf := h.cfg_wf
    line := { h.line with
      lines_released := fun _ => h.line.lines_released (by rw [TxPhase.quiet_eq, TxPhase.suppressing_of_rest hrest]; rfl)
      suppressed_iff := by
        have hiff := h.line.suppressed_iff
        rwa [TxPhase.suppressing_of_rest hrest, ← hboot] at hiff }
    queue := { h.queue with }
    matrix := { h.matrix with }
    control := hcontrol
    index := { index_le := Nat.zero_le _, low_lt := nofun, high_pos := nofun, ack_ten := nofun }
    time := { h.time with tx_lt := h.time.now_lt, cmd_lt := ht0 ▸ h.time.cmd_lt }
    report := { h.report with } }⟩

theorem fgStep_due_inv {s : State} (h : Inv s) (hdue : s.cmd.writeDue = true) : Answers Inv (fgStep s) := by
  obtain ⟨hsend, hrest⟩ := h.control.due_sending hdue
  rw [fgStep_of_due hdue]
  exact txBegin_inv h hrest rfl Iff.rfl { h.control with
    due_sending := nofun
    write_called := fun _ => .inl hsend
    write_awaited := nofun
    resend_awaited := nofun
    reply_at_rest := fun hwait => by cases hsend.symm.trans hwait }

/-! ### S.CMD -/

theorem FgPos.ne_resendWait_of_inCmd {p : FgPos} (h : p.inCmd = true) : p ≠ .resendWait := by
  rintro rfl
  cases h

theorem Inv.cmdAttempt {s : State} (h : Inv s) (hin : s.fg.inCmd = true) (hdue : s.cmd.writeDue = false)
    (hrest : s.tx.phase.atRest = true) : Inv (cmdAttempt s) := by
  have hrun : s.tx.phase.atRest ≠ false := by simp [hrest]
  obtain ⟨-, hgiveUp⟩ | ⟨hmore, hsend⟩ := cmdAttempt_cases s
  · rw [hgiveUp]
    exact {
      cfg_wf := h.cfg_wf
      line := { h.line with }
      queue := { h.queue with }
      matrix := { h.matrix with }
      control := { h.control with
        cmd_inside := fun _ => hin
        due_sending := fun hd => by simp [hdue] at hd
        write_called := fun hr => absurd hr hrun
        write_awaited := nofun
        reply_at_rest := nofun }
      index := { h.index with }
      time := { h.time with }
      report := { h.report with } }
  · rw [hsend]
    exact {
      cfg_wf := h.cfg_wf
      line := { h.line with }
      queue := { h.queue with }
      matrix := { h.matrix with }
      control := { h.control with
        cmd_inside := fun _ => hin
        due_sending := fun _ => ⟨rfl, hrest⟩
        write_called := fun hr => absurd hr hrun
        write_awaited := nofun
        reply_at_rest := nofun
        attempts_le := Nat.lt_of_le_of_ne h.control.attempts_le hmore }
      index := { h.index with }
      time := { h.time with }
      report := { h.report with } }

/-- S.CMD returns, or starts its wait, with no write under way. -/
theorem Inv.setCmd {s : State} (h : Inv s) (hin : s.fg.inCmd = true) (hrest : s.tx.phase.atRest = true) {c : Cmd}
    (hphase : c.phase ≠ .send) (hdue : c.writeDue = false) (hattempts : c.attempts ≤ s.cfg.cmdMaxAttempts)
    (ht0 : c.t0 < 2 ^ s.cfg.timeW) : Inv { s with cmd := c } where
  cfg_wf := h.cfg_wf
  line := { h.line with }
  queue := { h.queue with }
  matrix := { h.matrix with }
  control := { h.control with
    cmd_inside := fun _ => hin
    due_sending := fun hd => by simp [hdue] at hd
    write_called := fun hr => by simp [hrest] at hr
    write_awaited := fun hs => absurd hs hphase
    reply_at_rest := fun _ => hrest
    attempts_le := hattempts }
  index := { h.index with }
  time := { h.time with cmd_lt := ht0 }
  report := { h.report with }

section
variable {s : State} (h : Inv s) (hdue : s.cmd.writeDue = false) (hrest : s.tx.phase.atRest = true)
include h hdue hrest

theorem cmdAfterWrite_inv (hcmd : s.cmd.phase = .send) : Inv (cmdAfterWrite s) := by
  have hin := h.control.cmd_inside (by simp [hcmd])
  unfold cmdAfterWrite
  split_ifs
  · exact h.setCmd hin hrest (by simp) hdue h.control.attempts_le h.time.now_lt
  · exact h.cmdAttempt hin hdue hrest
  · exact h

theorem cmdPoll_inv (hcmd : s.cmd.phase = .wait) : Inv (cmdPoll s) := by
  have hin := h.control.cmd_inside (by simp [hcmd])
  have attempt {t : State} (ht : Inv t) (hfg : t.fg = s.fg) (hc : t.cmd = s.cmd) (htx : t.tx = s.tx) :
      Inv (cmdAttempt t) :=
    ht.cmdAttempt (hfg ▸ hin) (hc ▸ hdue) (htx ▸ hrest)
  unfold cmdPoll
  split
  · unfold replyNone
    split_ifs
    · exact attempt (h.congr rfl) rfl rfl rfl
    · exact h
  · have hdrop := h.queueDrop
    split_ifs
    · exact hdrop.setCmd (by simpa using hin) (by simpa using hrest) (by simp) (by simpa using hdue)
        hdrop.control.attempts_le hdrop.time.cmd_lt
    · exact attempt hdrop (by simp) (by simp) (by simp)
    · exact attempt (hdrop.congr rfl) (by simp) (by simp) (by simp)

end

/-! ### The clock and the reports -/

theorem Inv.advance {s : State} (h : Inv s) {n : Nat} : Inv (advance n s) where
  cfg_wf := h.cfg_wf
  line := { h.line with }
  queue := { h.queue with }
  matrix := { h.matrix with }
  control := { h.control with }
  index := { h.index with }
  time := { h.time with now_lt := Nat.mod_lt _ (Nat.two_pow_pos _) }
  report := { h.report with }

theorem Inv.deliver {s : State} (h : Inv s) : Inv (s.deliver (reportOf s.cfg s.km)) where
  cfg_wf := h.cfg_wf
  line := { h.line with }
  queue := { h.queue with }
  matrix := { h.matrix with }
  control := { h.control with }
  index := { h.index with }
  time := { h.time with }
  report := {
    last_emitted := rfl
    reserved_zero := List.forall_mem_cons.mpr ⟨rfl, h.report.reserved_zero⟩ }

/-! ### The drain loop -/

/-- What the translator and the event rule write, FG being in the drain loop with no other byte popped. -/
theorem Inv.setLatches {s : State} (h : Inv s) {tr : Translator} {km : Matrix} {event : Option (Byte × Bool)}
    (hfg : s.fg = .drain)
    (hmatrix : MatrixInv { s with tr := tr, km := km, popped := none, event := event }) :
    Inv { s with tr := tr, km := km, popped := none, event := event } where
  cfg_wf := h.cfg_wf
  line := { h.line with }
  queue := { h.queue with }
  matrix := hmatrix
  control := { h.control with latches := fun hne => absurd hfg hne, one_latch := .inl rfl }
  index := { h.index with }
  time := { h.time with }
  report := { h.report with }

theorem isKeyId_iff {id : Byte} : isKeyId id = true ↔ 1 ≤ id.toNat ∧ id.toNat ≤ maxKeyId := decide_eq_true_iff

/-- What a key byte resolves to, when to anything, is a real identifier (R102, R185). -/
theorem isKeyId_keyIdOf {t : State} (hwf : t.cfg.wf = true) {b : Byte} (hb : classify t.cfg b = .key)
    (hne : keyIdOf t b ≠ 0x00) : isKeyId (keyIdOf t b) = true := by
  have hpos : 1 ≤ (keyIdOf t b).toNat :=
    Nat.one_le_iff_ne_zero.mpr fun hzero => hne (BitVec.eq_of_toNat_eq hzero)
  cases hspecial : t.tr.special with
  | true =>
    have hid : keyIdOf t b = t.cfg.active.specialId := by simp [keyIdOf, hspecial]
    rw [hid]
    exact CodeSetConfig.specialId_of_wf (Config.active_wf hwf)
  | false =>
    have hid : keyIdOf t b = tbl t.cfg t.tr.extended b := by simp [keyIdOf, hspecial]
    exact isKeyId_iff.mpr ⟨hpos, hid ▸ tbl_le hwf hb _⟩

theorem Inv.setPopped {s : State} (h : Inv s) (hfg : s.fg = .drain) (he : s.event = none) (b : Option Byte) :
    Inv { s with popped := b } where
  cfg_wf := h.cfg_wf
  line := { h.line with }
  queue := { h.queue with }
  matrix := { h.matrix with }
  control := { h.control with latches := fun hne => absurd hfg hne, one_latch := .inr he }
  index := { h.index with }
  time := { h.time with }
  report := { h.report with }

theorem exec_qPop (s : State) : exec .qPop s = .next { queueDrop s with popped := s.queueHead } := rfl

theorem exec_qPop_of_empty {s : State} (hempty : s.queueEmpty = true) : exec .qPop s = .next { s with popped := none } := by
  simp only [exec_qPop, queueDrop_of_empty hempty, State.queueHead, hempty, if_true]

/-! ### The positions -/

section
variable {s : State} (h : Inv s) (hfree : s.foregroundFree)
include h hfree

/-- FG moves on, nothing else under way. -/
theorem Inv.moveTo {p : FgPos} (hmode : p.modeOf = s.fg.modeOf) (hold : s.fg ≠ .boot) (hnew : p ≠ .boot)
    (hwait : p ≠ .resendWait) (hlatch : p ≠ .drain → s.popped = none ∧ s.event = none)
    (hindex : ∀ i, p = .startupWait i → i < s.cfg.startupSeq.length) : Inv { s with fg := p } := by
  obtain ⟨hdue, hcmd, hrest⟩ := hfree
  exact {
    cfg_wf := h.cfg_wf
    line := { h.line with suppressed_iff := by simpa [hold, hnew] using h.line.suppressed_iff }
    queue := { h.queue with }
    matrix := { h.matrix with }
    control := { h.control with
      mode_eq := h.control.mode_eq.trans hmode.symm
      cmd_inside := fun hc => absurd hcmd hc
      write_called := fun hr => by simp [hrest] at hr
      resend_awaited := fun hp => absurd hp hwait
      latches := hlatch
      startup_index := hindex }
    index := { h.index with }
    time := { h.time with }
    report := { h.report with } }

/-- The same from a position `o` outside the drain loop, where both latches are empty. -/
theorem Inv.moveOn {o p : FgPos} (hfg : s.fg = o) (hmode : p.modeOf = o.modeOf) (hold : o ≠ .boot) (hdrain : o ≠ .drain)
    (hnew : p ≠ .boot) (hwait : p ≠ .resendWait) (hindex : ∀ i, p = .startupWait i → i < s.cfg.startupSeq.length) :
    Inv { s with fg := p } := by
  subst hfg
  exact h.moveTo hfree hmode hold hnew hwait (fun _ => h.control.latches hdrain) hindex

/-- S.CMD of a byte is entered from a position between operations (R221). -/
theorem cmdBegin_inv {o p : FgPos} (hfg : s.fg = o) (hin : p.inCmd = true) (hmode : p.modeOf = o.modeOf) (hold : o ≠ .boot)
    (hdrain : o ≠ .drain) (hnew : p ≠ .boot) (hindex : ∀ i, p = .startupWait i → i < s.cfg.startupSeq.length) (b : Byte) :
    Answers Inv (cmdBegin b { s with fg := p }) := by
  have hmoved := h.moveOn hfree hfg hmode hold hdrain hnew (FgPos.ne_resendWait_of_inCmd hin) hindex
  obtain ⟨hdue, hcmd, hrest⟩ := hfree
  have hentered := hmoved.setCmd (c := { s.cmd with byte := b, attempts := 0 }) hin hrest (by simp [hcmd]) hdue
    (Nat.zero_le _) h.time.cmd_lt
  simp only [cmdBegin, hcmd, if_true, answers_next]
  exact hentered.cmdAttempt hin hdue hrest

theorem fgStep_boot_inv (hfg : s.fg = .boot) : Answers Inv (fgStep s) := by
  rw [fgStep_at_boot hfree hfg]
  obtain ⟨hdue, hcmd, hrest⟩ := hfree
  exact answers_next.mpr {
    cfg_wf := h.cfg_wf
    line := { h.line with
      lines_released := fun _ => ⟨rfl, rfl⟩
      suppressed_iff := by simp [TxPhase.suppressing_of_rest hrest]
      suppressed_at_zero := nofun }
    queue := { h.queue with }
    matrix := { h.matrix with }
    control := { h.control with
      mode_eq := h.control.mode_eq.trans (by rw [hfg]; rfl)
      cmd_inside := fun hc => absurd hcmd hc
      write_called := fun hr => by simp [hrest] at hr
      resend_awaited := nofun
      latches := fun _ => h.control.latches (by simp [hfg])
      startup_index := nofun }
    index := { h.index with }
    time := { h.time with }
    report := { h.report with } }

/-- S.STARTUP ends: the mode and the position of it change together (R230, R231). -/
theorem Inv.leaveStartup {m : Mode} {p : FgPos} (hmode : p.modeOf = m) (hold : s.fg ≠ .boot) (hdrain : s.fg ≠ .drain)
    (hp : p = .loopTop ∨ p = .halted) : Inv { s with mode := m, fg := p } := by
  obtain ⟨hdue, hcmd, hrest⟩ := hfree
  have hnew : p ≠ .boot ∧ p ≠ .resendWait ∧ ∀ i, p ≠ .startupWait i := by
    obtain rfl | rfl := hp <;> simp
  obtain ⟨hboot, hwait, hstartup⟩ := hnew
  exact {
    cfg_wf := h.cfg_wf
    line := { h.line with suppressed_iff := by simpa [hold, hboot] using h.line.suppressed_iff }
    queue := { h.queue with }
    matrix := { h.matrix with }
    control := { h.control with
      mode_eq := hmode.symm
      cmd_inside := fun hc => absurd hcmd hc
      write_called := fun hr => by simp [hrest] at hr
      resend_awaited := fun hp => absurd hp hwait
      latches := fun _ => h.control.latches hdrain
      startup_index := fun i hi => absurd hi (hstartup i) }
    index := { h.index with }
    time := { h.time with }
    report := { h.report with } }

theorem fgStep_startup_inv {i : Nat} (hfg : s.fg = .startup i) : Answers Inv (fgStep s) := by
  cases hb : s.cfg.startupSeq[i]? with
  | none =>
    rw [fgStep_at_startup_end hfree hfg hb]
    exact answers_next.mpr (h.leaveStartup hfree rfl (by simp [hfg]) (by simp [hfg]) (.inl rfl))
  | some b =>
    rw [fgStep_at_startup hfree hfg hb]
    have hlt : i < s.cfg.startupSeq.length := (List.getElem?_eq_some_iff.mp hb).1
    exact cmdBegin_inv h hfree (p := .startupWait i) hfg rfl rfl nofun nofun nofun
      (fun j hj => FgPos.startupWait.inj hj ▸ hlt) b

theorem fgStep_startupWait_inv {i : Nat} (hfg : s.fg = .startupWait i) : Answers Inv (fgStep s) := by
  rw [fgStep_at_startupWait hfree hfg]
  split
  · exact answers_next.mpr (h.moveOn hfree hfg rfl nofun nofun nofun nofun nofun)
  · exact answers_next.mpr ((h.leaveStartup hfree (m := .failed) (p := .halted) rfl (by simp [hfg]) (by simp [hfg])
      (.inr rfl)).congr rfl)

theorem fgStep_resendSend_inv (hfg : s.fg = .resendSend) : Answers Inv (fgStep s) := by
  rw [fgStep_at_resendSend hfree hfg]
  obtain ⟨hdue, hcmd, hrest⟩ := hfree
  exact txBegin_inv h hrest (c := s.cmd) rfl (by simp [hfg]) { h.control with
    mode_eq := h.control.mode_eq.trans (by rw [hfg]; rfl)
    cmd_inside := fun hc => absurd hcmd hc
    due_sending := fun hd => by cases hdue.symm.trans hd
    write_called := fun _ => .inr rfl
    write_awaited := nofun
    resend_awaited := nofun
    reply_at_rest := fun hw => by cases hcmd.symm.trans hw
    latches := fun _ => h.control.latches (by simp [hfg])
    startup_index := nofun }

theorem fgStep_popped_inv {b : Byte} (hfg : s.fg = .drain) (hb : s.popped = some b) : Answers Inv (fgStep s) := by
  rw [fgStep_at_drain_popped hfree hfg hb, exec_translate]
  cases hclass : classify s.cfg b with
  | release => exact answers_next.mpr (h.setLatches hfg { h.matrix with event_key := nofun })
  | extended => exact answers_next.mpr (h.setLatches hfg { h.matrix with event_key := nofun })
  | special =>
    have hsome := specialPrefix_of_classify hclass
    exact answers_next.mpr (h.setLatches hfg { h.matrix with
      event_key := nofun
      special_absent := fun hnone => by cases hsome.symm.trans hnone })
  | key =>
    refine answers_next.mpr (h.setLatches hfg { h.matrix with
      event_key := fun e he => ?_
      special_absent := fun _ => rfl })
    simp only at he
    split at he
    · cases he
    · next hne =>
      cases he
      exact isKeyId_keyIdOf h.cfg_wf hclass hne

/-- The event rule moves one bit of a real identifier, so the bits of no identifier stay clear (R58 c). -/
theorem fgStep_event_inv {e : Byte × Bool} (hfg : s.fg = .drain) (hb : s.popped = none) (he : s.event = some e) :
    Answers Inv (fgStep s) := by
  have hkey := h.matrix.event_key e he
  obtain ⟨hpos, hle⟩ := isKeyId_iff.mp hkey
  have hclear (j : Nat) (hj : j = 0 ∨ maxKeyId < j) (hzero : s.km.getLsbD j = false) :
      (applyEvent e.1 e.2 s.km).getLsbD j = false := by
    by_cases hlt : j < 256
    · have hne : j ≠ e.1.toNat := by omega
      rw [applyEvent_bit _ _ _ hlt, if_neg hne, hzero]
    · exact BitVec.getLsbD_of_ge _ _ (Nat.not_lt.mp hlt)
  rw [fgStep_at_drain_event hfree hfg hb he hkey, exec_mApply, answers_next]
  have hset := h.setLatches (tr := s.tr) (km := applyEvent e.1 e.2 s.km) (event := none) hfg {
    bit_zero := hclear 0 (.inl rfl) h.matrix.bit_zero
    bits_high := fun j hj => hclear j (.inr hj) (h.matrix.bits_high j hj)
    event_key := nofun
    special_absent := h.matrix.special_absent }
  rw [← hb] at hset
  exact hset

theorem fgStep_pop_inv (hfg : s.fg = .drain) (hb : s.popped = none) (he : s.event = none) : Answers Inv (fgStep s) := by
  rw [fgStep_at_drain_pop hfree hfg hb he]
  cases hempty : s.queueEmpty with
  | true =>
    have hmoved := h.moveTo hfree (p := .deliver) (by rw [hfg]; rfl) (by simp [hfg]) (by simp) (by simp)
      (fun _ => ⟨hb, he⟩) (by simp)
    rw [hb] at hmoved
    rw [if_pos rfl, exec_qPop_of_empty (s := { s with fg := .deliver }) hempty]
    exact answers_next.mpr hmoved
  | false =>
    have hdrop := h.queueDrop.setPopped (b := s.queueHead) (by simpa using hfg) (by simpa using he)
    rw [if_neg Bool.false_ne_true, ← hfg]
    exact answers_next.mpr hdrop

/-! ### FG's turn -/

theorem fgStep_position_inv : Answers Inv (fgStep s) := by
  cases hfg : s.fg with
  | boot => exact fgStep_boot_inv h hfree hfg
  | startup i => exact fgStep_startup_inv h hfree hfg
  | startupWait i => exact fgStep_startupWait_inv h hfree hfg
  | loopTop =>
    have hmoved := h.moveOn hfree (p := .resend) hfg rfl nofun nofun nofun nofun nofun
    rw [fgStep_at_loopTop hfree hfg]
    unfold execSLoop
    split
    · exact answers_next.mpr hmoved
    · exact answers_next.mpr h
    · exact answers_next.mpr h
  | resend =>
    rw [fgStep_at_resend hfree hfg]
    split <;> exact answers_next.mpr (h.moveOn hfree hfg rfl nofun nofun nofun nofun nofun)
  | resendSend => exact fgStep_resendSend_inv h hfree hfg
  | resendWait =>
    rw [fgStep_at_resendWait hfree hfg]
    exact answers_next.mpr ((h.moveOn hfree (p := .drain) hfg rfl nofun nofun nofun nofun nofun).congr rfl)
  | drain =>
    cases hb : s.popped with
    | some b => exact fgStep_popped_inv h hfree hfg hb
    | none =>
      cases he : s.event with
      | some e => exact fgStep_event_inv h hfree hfg hb he
      | none => exact fgStep_pop_inv h hfree hfg hb he
  | deliver =>
    have hmoved := h.moveOn hfree (p := .led) hfg rfl nofun nofun nofun nofun nofun
    rw [fgStep_at_deliver hfree hfg, exec_rDeliver]
    split
    · exact answers_next.mpr hmoved
    · exact answers_next.mpr hmoved.deliver
  | led =>
    cases hp : s.ledPending with
    | true =>
      rw [fgStep_at_led_pending hfree hfg hp]
      exact answers_next.mpr ((h.moveOn hfree (p := .ledSend s.ledUsb) hfg rfl nofun nofun nofun nofun nofun).congr rfl)
    | false =>
      rw [fgStep_at_led_none hfree hfg hp]
      exact answers_next.mpr (h.moveOn hfree hfg rfl nofun nofun nofun nofun nofun)
  | ledSend u =>
    rw [fgStep_at_ledSend hfree hfg]
    exact cmdBegin_inv h hfree (p := .ledWait u) hfg rfl rfl nofun nofun nofun nofun _
  | ledWait u =>
    rw [fgStep_at_ledWait hfree hfg]
    split <;> exact answers_next.mpr (h.moveOn hfree hfg rfl nofun nofun nofun nofun nofun)
  | ledArgSend u =>
    rw [fgStep_at_ledArgSend hfree hfg]
    exact cmdBegin_inv h hfree (p := .ledArgWait) hfg rfl rfl nofun nofun nofun nofun _
  | ledArgWait =>
    rw [fgStep_at_ledArgWait hfree hfg]
    exact answers_next.mpr (h.moveOn hfree hfg rfl nofun nofun nofun nofun nofun)
  | sleep =>
    rw [fgStep_at_sleep hfree hfg]
    exact answers_next.mpr (h.moveOn hfree hfg rfl nofun nofun nofun nofun nofun)
  | halted =>
    rw [fgStep_at_halted hfree hfg]
    exact answers_next.mpr h

end

theorem fgStep_inv {s : State} (h : Inv s) : Answers Inv (fgStep s) := by
  cases hdue : s.cmd.writeDue with
  | true => exact fgStep_due_inv h hdue
  | false =>
    cases hrest : s.tx.phase.atRest with
    | false =>
      obtain ⟨i, hi⟩ := pollOf_of_running hrest
      rw [fgStep_of_running hdue hi]
      exact exec_poll_inv h hi
    | true =>
      cases hcmd : s.cmd.phase with
      | send =>
        rw [fgStep_of_send hdue hrest hcmd]
        exact answers_next.mpr (cmdAfterWrite_inv h hdue hrest hcmd)
      | wait =>
        rw [fgStep_of_wait hdue hrest hcmd]
        exact answers_next.mpr (cmdPoll_inv h hdue hrest hcmd)
      | idle => exact fgStep_position_inv h ⟨hdue, hcmd, hrest⟩

/-! ### A step -/

theorem takeEdge_inv (before : State) {after : State} (h : Inv after) : Leads Inv (takeEdge before after) := by
  unfold takeEdge
  split
  · exact rxEdge_inv _ h
  · exact leads_next.mpr h

theorem applyStimulus_inv (x : Stimulus) {s : State} (h : Inv s) : Leads Inv (applyStimulus x s) := by
  cases x with
  | fg => exact (fgStep_inv h).leads.andThen fun _ => takeEdge_inv s
  | dev c d => exact takeEdge_inv s (h.congr rfl)
  | frame w => exact execFrame11_inv w h
  | ms n => exact leads_next.mpr h.advance
  | ledIn u => exact leads_next.mpr (h.congr rfl)
  | reportReq =>
    simp only [applyStimulus, exec_rDeliverReq]
    exact leads_next.mpr h.deliver
  | wake => exact leads_next.mpr h
  | spuriousEdge =>
    simp only [applyStimulus, spuriousEdge]
    split
    · exact leads_next.mpr h
    · split
      · exact rxEdge_inv _ (h.congr rfl)
      · exact leads_next.mpr h

theorem nextStimulus_frame (s : State) : UnreadFrame s (nextStimulus s).2 := by
  unfold nextStimulus
  split <;> rfl

/-- Settles O3: whichever agent moves, the invariant is kept: the environment's actions, the receiver, FG's turn. -/
theorem everyStepKeepsTheInvariant : Obligations.EveryStepKeepsTheInvariant := by
  unfold Obligations.EveryStepKeepsTheInvariant
  intro s t h hstep
  rw [step_of_wf h.cfg_wf] at hstep
  exact applyStimulus_inv _ (h.congr (nextStimulus_frame s)) t hstep

end Sys2Proof.Machine

/-! Proofs. What the invariant gives for a run: it holds at reset, the edge-driven build never stops, nothing is translated outside
mode RUN, and in FAILED nothing runs. -/

namespace Sys2Proof.Machine

/-! ### Reset -/

/-- Settles O1: each value is read off `State.reset`. -/
theorem resetHoldsTheStatedValues : Obligations.ResetHoldsTheStatedValues := by
  unfold Obligations.ResetHoldsTheStatedValues
  refine ⟨rfl, rfl, rfl, rfl, rfl, rfl, rfl, rfl, rfl, rfl, rfl, rfl, rfl, rfl, rfl, fun i => ?matrix, fun i => ?report, rfl, rfl,
    rfl, rfl, rfl, rfl, rfl⟩
  case matrix => exact BitVec.getLsbD_zero
  case report =>
    unfold Report.byte
    split <;> rfl

/-- Settles O2: nothing is queued, held or under way, and the handler is suppressed, at the position before line initialization. -/
theorem resetMeetsTheInvariant : Obligations.ResetMeetsTheInvariant := by
  unfold Obligations.ResetMeetsTheInvariant
  intro c hwf
  have hslots : 0 < c.queueSlots := Nat.lt_of_lt_of_le (by decide) (Config.limits_of_wf hwf).1
  have htime : 0 < 2 ^ c.timeW := Nat.two_pow_pos _
  refine ⟨?inv, fun _ => ⟨rfl, rfl, rfl⟩⟩
  case inv => exact {
    cfg_wf := hwf
    line := {
      bitCount_le := Nat.zero_le _
      lines_released := fun _ => ⟨rfl, rfl⟩
      suppressed_iff := ⟨fun _ => .inr rfl, fun _ => rfl⟩
      suppressed_at_zero := fun _ => rfl }
    queue := { wr_lt := hslots, rd_lt := hslots, cells_wf := ⟨List.Pairwise.nil, nofun⟩, cells_inside := nofun }
    matrix := {
      bit_zero := BitVec.getLsbD_zero
      bits_high := fun _ _ => BitVec.getLsbD_zero
      event_key := nofun
      special_absent := fun _ => rfl }
    control := {
      mode_eq := rfl
      cmd_inside := fun hc => absurd rfl hc
      due_sending := nofun
      write_called := nofun
      write_awaited := nofun
      resend_awaited := nofun
      reply_at_rest := nofun
      attempts_le := Nat.zero_le _
      latches := fun _ => ⟨rfl, rfl⟩
      one_latch := .inl rfl
      startup_index := nofun }
    index := { index_le := Nat.zero_le _, low_lt := nofun, high_pos := nofun, ack_ten := nofun }
    time := { now_lt := htime, bit_lt := htime, tx_lt := htime, cmd_lt := htime }
    report := { last_emitted := rfl, reserved_zero := nofun } }

/-! ### A step, stimulus by stimulus -/

theorem nextStimulus_withInputs (s : State) : ∃ rest, (nextStimulus s).2 = s.withInputs rest := by
  unfold nextStimulus
  split
  · exact ⟨s.env.inputs, rfl⟩
  · exact ⟨_, rfl⟩

/-- What holds after every action of every agent holds after a step. -/
theorem step_leads {P : State → Prop} {s : State} (hwf : s.cfg.wf = true)
    (h : ∀ x rest, Leads P (applyStimulus x (s.withInputs rest))) : Leads P (step s) := by
  obtain ⟨rest, hrest⟩ := nextStimulus_withInputs s
  rw [step_of_wf hwf, hrest]
  exact h _ rest

/-! ### The edge-driven build never stops -/

section
variable {s : State} (hedge : s.cfg.rxImpl = .edge)
include hedge

theorem takeEdge_next (before : State) (hcount : s.rx.bitCount.toNat ≤ 10) : ∃ t, takeEdge before s = .next t := by
  unfold takeEdge
  split
  · obtain ⟨t, ht, -⟩ := rxEdge_next s.data hedge hcount
    exact ⟨t, ht⟩
  · exact ⟨s, rfl⟩

theorem applyStimulus_next (h : Inv s) (x : Stimulus) : ∃ t, applyStimulus x s = .next t := by
  have hcount := h.line.bitCount_le
  cases x with
  | fg =>
    obtain ⟨u, hu, hinv⟩ := fgStep_inv h
    have hcfg : u.cfg = s.cfg := fgStep_keeps_cfg s u hu
    obtain ⟨t, ht⟩ := takeEdge_next (hcfg ▸ hedge) s hinv.line.bitCount_le
    exact ⟨t, by simp only [applyStimulus, hu, andThen_of_next, ht]⟩
  | dev c d => exact takeEdge_next (s := setDev c d s) hedge s hcount
  | frame w =>
    obtain ⟨t, ht⟩ := rxEdges_next (frameBits w) hedge hcount
    exact ⟨t, by simp only [applyStimulus, exec, execFrame11, hedge, ht]⟩
  | ms n => exact ⟨_, rfl⟩
  | ledIn u => exact ⟨_, rfl⟩
  | reportReq => exact ⟨_, rfl⟩
  | wake => exact ⟨s, rfl⟩
  | spuriousEdge =>
    simp only [applyStimulus, spuriousEdge]
    split
    · exact ⟨s, rfl⟩
    · split
      · obtain ⟨t, ht, -⟩ := rxEdge_next (s := { s with edgeLatched := false }) s.data hedge hcount
        exact ⟨t, ht⟩
      · exact ⟨s, rfl⟩

end

/-- Settles O4: FG answers from every state that meets the invariant, the edge handler at every count up to 10. -/
theorem edgeBuildNeverStops : Obligations.EdgeBuildNeverStops := by
  unfold Obligations.EdgeBuildNeverStops
  intro s h hedge
  obtain ⟨rest, hrest⟩ := nextStimulus_withInputs s
  rw [step_of_wf h.cfg_wf, hrest]
  exact applyStimulus_next (s := s.withInputs rest) hedge (h.congr rfl) _

/-! ### The frame of a write's poll -/

theorem PollFrame.of_rxStale {s t : State} (h : PollFrame (rxStale s) t) : PollFrame s t := by
  unfold PollFrame at *
  rw [h]
  simp

theorem lineAck_pollFrame (a : Bool) (s : State) : PollFrame s (lineAck a s) := by
  cases a <;> rfl

theorem exec_poll_frame {p : TxPhase} {i : Instr} (hi : pollOf p = some i) (s : State) : Leads (PollFrame s) (exec i s) := by
  cases p <;> cases hi
  · simp only [exec, execTxWaitIdle, leads_ite, leads_next]
    exact ⟨fun _ => PollFrame.of_rxStale rfl, fun _ => ⟨fun _ => PollFrame.of_rxStale rfl, fun _ => PollFrame.of_rxStale rfl⟩⟩
  · simp only [exec, execTxSettle, leads_ite, leads_next]
    exact ⟨fun _ => PollFrame.of_rxStale rfl, fun _ => PollFrame.of_rxStale rfl⟩
  · exact leads_next.mpr rfl
  · exact leads_next.mpr rfl
  · simp only [exec, execTxWaitLow, leads_ite, leads_next]
    exact ⟨fun _ => rfl, fun _ => ⟨fun _ => rfl, fun _ => rfl⟩⟩
  · simp only [exec, execTxWaitHigh, leads_ite, leads_next]
    exact ⟨fun _ => rfl, fun _ => ⟨fun _ => rfl, fun _ => rfl⟩⟩
  · simp only [exec, execTxAckWaitLow, leads_ite, leads_next]
    exact ⟨fun _ => lineAck_pollFrame _ s, fun _ => ⟨fun _ => rfl, fun _ => rfl⟩⟩
  · simp only [exec, execTxAckWaitRelease, leads_ite, leads_next]
    exact ⟨fun _ => rfl, fun _ => ⟨fun _ => rfl, fun _ => rfl⟩⟩

/-! ### Outside RUN nothing is translated -/

/-- The matrix, `last_report` and the translator are as reset left them. -/
def Untranslated (s : State) : Prop := s.km = 0 ∧ s.lastReport = Report.zero ∧ s.tr = Translator.neutral

theorem Untranslated.of_eq {s t : State} (h : Untranslated s) (hkm : t.km = s.km) (hlast : t.lastReport = s.lastReport)
    (htr : t.tr = s.tr) : Untranslated t := by
  unfold Untranslated
  rw [hkm, hlast, htr]
  exact h

theorem ReceiverFrame.untranslated {s t : State} (hframe : ReceiverFrame s t) (h : Untranslated s) : Untranslated t :=
  h.of_eq hframe.km_eq hframe.lastReport_eq hframe.tr_eq

theorem PollFrame.untranslated {s t : State} (hframe : PollFrame s t) (h : Untranslated s) : Untranslated t := by
  unfold PollFrame at hframe
  rw [hframe]
  exact h

@[simp] theorem cmdPoll_lastReport (s : State) : (cmdPoll s).lastReport = s.lastReport := by
  unfold cmdPoll
  split
  · simp
  · split_ifs <;> simp

@[simp] theorem cmdPoll_tr (s : State) : (cmdPoll s).tr = s.tr := by
  unfold cmdPoll
  split
  · simp
  · split_ifs <;> simp

theorem Untranslated.cmdBegin {s : State} (h : Untranslated s) (b : Byte) : Leads Untranslated (cmdBegin b s) := by
  intro t ht
  obtain ⟨-, rfl⟩ := cmdBegin_next ht
  exact h.of_eq (by simp) (by simp) (by simp)

theorem Untranslated.txBegin {s : State} (h : Untranslated s) (b : Byte) : Leads Untranslated (txBegin b s) := by
  intro t ht
  obtain ⟨-, rfl⟩ := txBegin_next ht
  exact h

section
variable {s : State} (hmode : s.fg.modeOf ≠ .run) (h : Untranslated s)
include hmode h

theorem fgStep_position_untranslated (hfree : s.foregroundFree) : Leads Untranslated (fgStep s) := by
  cases hfg : s.fg with
  | boot =>
    rw [fgStep_at_boot hfree hfg]
    exact leads_next.mpr h
  | startup i =>
    cases hb : s.cfg.startupSeq[i]? with
    | none =>
      rw [fgStep_at_startup_end hfree hfg hb]
      exact leads_next.mpr h
    | some b =>
      rw [fgStep_at_startup hfree hfg hb]
      exact Untranslated.cmdBegin (s := { s with fg := .startupWait i }) h b
  | startupWait i =>
    rw [fgStep_at_startupWait hfree hfg]
    split <;> exact leads_next.mpr h
  | halted =>
    rw [fgStep_at_halted hfree hfg]
    exact leads_next.mpr h
  | _ => exact absurd (by rw [hfg]; rfl) hmode

theorem fgStep_untranslated : Leads Untranslated (fgStep s) := by
  cases hdue : s.cmd.writeDue with
  | true =>
    rw [fgStep_of_due hdue]
    exact Untranslated.txBegin (s := { s with cmd := { s.cmd with writeDue := false } }) h _
  | false =>
    cases hrest : s.tx.phase.atRest with
    | false =>
      obtain ⟨i, hi⟩ := pollOf_of_running hrest
      rw [fgStep_of_running hdue hi]
      exact (exec_poll_frame hi s).mono fun _ hframe => hframe.untranslated h
    | true =>
      cases hcmd : s.cmd.phase with
      | send =>
        rw [fgStep_of_send hdue hrest hcmd]
        exact leads_next.mpr (h.of_eq (by simp) (by simp) (by simp))
      | wait =>
        rw [fgStep_of_wait hdue hrest hcmd]
        exact leads_next.mpr (h.of_eq (by simp) (by simp) (by simp))
      | idle => exact fgStep_position_untranslated hmode h ⟨hdue, hcmd, hrest⟩

omit hmode in
theorem takeEdge_untranslated (before : State) : Leads Untranslated (takeEdge before s) := by
  unfold takeEdge
  split
  · exact (rxEdge_receiverFrame s.data s).mono fun _ hframe => hframe.untranslated h
  · exact leads_next.mpr h

theorem applyStimulus_untranslated (x : Stimulus) : Leads Untranslated (applyStimulus x s) := by
  cases x with
  | fg => exact (fgStep_untranslated hmode h).andThen fun _ hu => takeEdge_untranslated hu s
  | dev c d => exact takeEdge_untranslated (s := setDev c d s) h s
  | frame w => exact (execFrame11_receiverFrame w s).mono fun _ hframe => hframe.untranslated h
  | ms n => exact leads_next.mpr h
  | ledIn u => exact leads_next.mpr h
  | reportReq =>
    obtain ⟨hkm, -, htr⟩ := h
    simp only [applyStimulus, exec_rDeliverReq, leads_next, hkm, reportOf_zero]
    exact ⟨hkm, rfl, htr⟩
  | wake => exact leads_next.mpr h
  | spuriousEdge =>
    simp only [applyStimulus, spuriousEdge]
    split
    · exact leads_next.mpr h
    · split
      · exact (rxEdge_receiverFrame _ _).mono fun _ hframe => hframe.untranslated h
      · exact leads_next.mpr h

end

/-! ### In FAILED nothing runs -/

/-- The write path, S.CMD, the line drives and FG's position are as in `s`. -/
def SameForeground (s t : State) : Prop := t.tx = s.tx ∧ t.cmd = s.cmd ∧ t.drive = s.drive ∧ t.fg = s.fg

theorem SameForeground.refl (s : State) : SameForeground s s := ⟨rfl, rfl, rfl, rfl⟩

theorem ReceiverFrame.sameForeground {s t : State} (hframe : ReceiverFrame s t) : SameForeground s t :=
  ⟨hframe.tx_eq, hframe.cmd_eq, hframe.drive_eq, hframe.fg_eq⟩

theorem takeEdge_sameForeground (before s : State) : Leads (SameForeground s) (takeEdge before s) := by
  unfold takeEdge
  split
  · exact (rxEdge_receiverFrame s.data s).mono fun _ hframe => hframe.sameForeground
  · exact leads_next.mpr (.refl s)

/-- Only FG itself moves the foreground. -/
theorem applyStimulus_sameForeground {x : Stimulus} (hx : x ≠ .fg) (s : State) :
    Leads (SameForeground s) (applyStimulus x s) := by
  cases x with
  | fg => exact absurd rfl hx
  | dev c d => exact takeEdge_sameForeground s (setDev c d s)
  | frame w => exact (execFrame11_receiverFrame w s).mono fun _ hframe => hframe.sameForeground
  | ms n => exact leads_next.mpr (.refl s)
  | ledIn u => exact leads_next.mpr (.refl s)
  | reportReq =>
    simp only [applyStimulus, exec_rDeliverReq]
    exact leads_next.mpr (.refl s)
  | wake => exact leads_next.mpr (.refl s)
  | spuriousEdge =>
    simp only [applyStimulus, spuriousEdge]
    split
    · exact leads_next.mpr (.refl s)
    · split
      · exact (rxEdge_receiverFrame _ _).mono fun _ hframe => hframe.sameForeground
      · exact leads_next.mpr (.refl s)

theorem halted_of_failed {p : FgPos} (h : p.modeOf = .failed) : p = .halted := by
  cases p with
  | halted => rfl
  | _ => cases h

/-- In FAILED no S.CMD and no write is under way, by the control invariant. -/
theorem ControlInv.free_of_halted {s : State} (h : ControlInv s) (hfg : s.fg = .halted) : s.foregroundFree := by
  have hcmd : s.cmd.phase = .idle := by
    by_contra hne
    have hin := h.cmd_inside hne
    rw [hfg] at hin
    cases hin
  have hdue : s.cmd.writeDue = false := by
    refine Bool.eq_false_iff.mpr fun hdue => ?_
    cases hcmd.symm.trans (h.due_sending hdue).1
  have hrest : s.tx.phase.atRest = true := by
    by_contra hrun
    obtain hsend | hwait := h.write_called (Bool.eq_false_iff.mpr hrun)
    · cases hcmd.symm.trans hsend
    · cases hfg.symm.trans hwait
  exact ⟨hdue, hcmd, hrest⟩

/-- FG's own turn in FAILED changes nothing. -/
theorem applyStimulus_halted {s : State} (hfree : s.foregroundFree) (hfg : s.fg = .halted) (x : Stimulus) :
    Leads (SameForeground s) (applyStimulus x s) := by
  by_cases hx : x = .fg
  · subst hx
    simp only [applyStimulus, fgStep_at_halted hfree hfg, andThen_of_next]
    exact takeEdge_sameForeground s s
  · exact applyStimulus_sameForeground hx s

/-- FG's turn, with no input pending, where it leaves `clk` as it was. -/
theorem step_of_fgStep {s t : State} (hwf : s.cfg.wf = true) (hi : s.env.inputs = []) (h : fgStep s = .next t)
    (hclk : t.clk = s.clk) : step s = .next t := by
  rw [step_nil hwf hi, h, andThen_of_next, takeEdge_of_same hclk]

/-- Settles O5: a step outside RUN runs nothing that writes the matrix, the translator or `last_report` but a requested report,
which is the empty one; in FAILED FG stands still and only the receiver and the environment act. -/
theorem nothingIsTranslatedOutsideRun : Obligations.NothingIsTranslatedOutsideRun := by
  unfold Obligations.NothingIsTranslatedOutsideRun
  refine ⟨fun s t h hcold hstep hmode => ?cold, fun s t h hfailed hstep => ?failed, fun s hwf hfree hi hfg => ?halted⟩
  case cold =>
    have hnotRun : s.mode ≠ .run := fun hrun => hmode ((modeMovesOnlyOutOfBoot.2 s t h hstep).1 hrun)
    have hpos : s.fg.modeOf ≠ .run := h.control.mode_eq ▸ hnotRun
    exact step_leads h.cfg_wf
      (fun x rest => applyStimulus_untranslated (s := s.withInputs rest) hpos (hcold hnotRun) x) t hstep
  case failed =>
    have hfg := halted_of_failed (h.control.mode_eq ▸ hfailed)
    have hfree := h.control.free_of_halted hfg
    obtain ⟨htx, hcmd, hdrive, hpos⟩ := step_leads (P := SameForeground s) h.cfg_wf
      (fun x rest => applyStimulus_halted (s := s.withInputs rest) hfree hfg x) t hstep
    exact ⟨htx, hcmd, hdrive, hpos.trans hfg⟩
  case halted => exact step_of_fgStep hwf hi (fgStep_at_halted hfree hfg) rfl

end Sys2Proof.Machine

/-! Proofs. Who drives the lines (R24), the order of the USB events (R263), refused configurations (R111), and what a step runs:
FG's selection, an edge, an event (R74, R95, R100, R103). -/

namespace Sys2Proof.Machine

/-! ### The line drives -/

@[simp] theorem cmdPoll_drive (s : State) : (cmdPoll s).drive = s.drive := by
  unfold cmdPoll
  split
  · simp
  · split_ifs <;> simp

@[simp] theorem cmdPoll_env (s : State) : (cmdPoll s).env = s.env := by
  unfold cmdPoll
  split
  · simp
  · split_ifs <;> simp

theorem txBegin_keeps_drive (b : Byte) (s : State) : Keeps State.drive s (txBegin b s) := by simp [txBegin]

theorem cmdBegin_keeps_drive (b : Byte) (s : State) : Keeps State.drive s (cmdBegin b s) := by simp [cmdBegin]

theorem cmdBeginOf_keeps_drive (b : Option Byte) (s : State) : Keeps State.drive s (cmdBeginOf b s) := by
  cases b with
  | none => simp [cmdBeginOf]
  | some c => exact cmdBegin_keeps_drive c s

/-- Past line initialization S.STARTUP leaves the lines alone. -/
theorem execSStartup_keeps_drive {s : State} (h : s.fg ≠ .boot) : Keeps State.drive s (execSStartup s) := by
  cases hfg : s.fg with
  | boot => exact absurd hfg h
  | startup i =>
    simp only [execSStartup, hfg]
    split
    · exact (cmdBegin_keeps_drive _ _).of_eq rfl
    · simp
  | _ => simp [execSStartup, hfg]

/-- Settles O10: every operation outside the list keeps the drives. -/
theorem onlyTheWritePathDrivesTheLines : Obligations.OnlyTheWritePathDrivesTheLines := by
  unfold Obligations.OnlyTheWritePathDrivesTheLines
  refine ⟨fun i s t hexec hne => ?_, fun s => rfl⟩
  have kept {P : Prop} (h : Keeps State.drive s (exec i s)) : P := absurd (h t hexec) hne
  have received {P : Prop} (h : Leads (ReceiverFrame s) (exec i s)) : P := absurd (h t hexec).drive_eq hne
  cases i with
  -- line initialization and the write path
  | lineInit | txWaitIdle | txInhibit | txStart | txWaitLow | txWaitHigh | txAckWaitLow | txAckWaitRelease | txLineAck | txFail
  | txSucceed => simp
  | sStartup =>
    by_cases hfg : s.fg = .boot
    · exact .inr (.inl ⟨rfl, hfg⟩)
    · exact kept (execSStartup_keeps_drive hfg)
  | txSettle => exact kept (by simp [exec, execTxSettle])
  -- the receiver
  | rxStale => exact received (leads_next.mpr (rxStale_receiverFrame s))
  | rxStop d => exact received (execRxStop_receiverFrame d s)
  | rxStep => exact received (rxEdge_receiverFrame _ s)
  | frame11 w => exact received (execFrame11_receiverFrame w s)
  -- the calls and the sequencers
  | txWrite b => exact kept (txBegin_keeps_drive b s)
  | cmdResend => exact kept (txBegin_keeps_drive _ s)
  | cmdSetLeds | ledLegacy => exact kept (cmdBegin_keeps_drive _ s)
  | cmdSelectCodeSet | cmdDisableTypematic => exact kept (cmdBeginOf_keeps_drive _ s)
  | sCmd b =>
    refine kept ?_
    simp only [exec, execSCmd]
    split
    · exact cmdBegin_keeps_drive b s
    · simp
    · simp
  | translate b =>
    obtain ⟨tr, event, h⟩ := exec_translate_reads_cfg_tr b s
    exact kept (h s rfl rfl ▸ keeps_next.mpr rfl)
  | sLed => exact kept (by simp only [exec, execSLed]; split <;> simp)
  | sResend => exact kept (by simp only [exec, execSResend]; split <;> simp)
  | sLoop => exact kept (by simp only [exec, execSLoop]; split <;> simp)
  | rDeliver => exact kept (by simp [exec, execRDeliver])
  -- one shared update, with its lemma under Laws
  | qPush b => exact kept (keeps_next.mpr (queuePush_drive s b))
  | qPop => exact kept (keeps_next.mpr (queueDrop_drive s))
  | replyResend => exact kept (keeps_next.mpr (cmdAttempt_drive s))
  | replyOther b => exact kept (keeps_next.mpr (replyOther_drive s b))
  | replyNone => exact kept (keeps_next.mpr (replyNone_drive s))
  | rDeliverReq => exact kept (keeps_next.mpr (deliver_drive s _))
  -- one record update that does not name the drives
  | rxStart | rxSpurious | rxData | rxParity | tRelease | tReleaseSetX | tExt | tSpecial | tKey | tKey1C | replyAck | ledUsb
  | ledIn | event | report8 | rolloverSentinel | mApply | rBuild | sSleep => exact kept (keeps_next.mpr rfl)

/-! ### The USB events -/

/-- Settles O11: the report of the matrix does not read the LED byte, nor the latch the report. -/
theorem theUsbEventsAreServedInAnyOrder : Obligations.TheUsbEventsAreServedInAnyOrder := by
  unfold Obligations.TheUsbEventsAreServedInAnyOrder
  refine ⟨fun s => (exec_rDeliverReq s).trans rfl, fun s u rest hwf => ?_⟩
  have hled (v : State) (hv : v.cfg.wf = true) (xs : List Stimulus) :
      step (v.withInputs (.ledIn u :: xs)) = .next ((latchLed u v).withInputs xs) := step_withInputs hv _ xs
  have hreport (v : State) (hv : v.cfg.wf = true) (xs : List Stimulus) :
      step (v.withInputs (.reportReq :: xs)) = .next ((v.deliver (reportOf v.cfg v.km)).withInputs xs) :=
    (step_withInputs hv _ xs).trans (exec_rDeliverReq _)
  refine ⟨((latchLed u s).deliver (reportOf s.cfg s.km)).withInputs rest, ?_, ?_, rfl, rfl, rfl⟩
  · exact (run_of_step (hled s hwf _) 1).trans (run_of_step (hreport (latchLed u s) hwf rest) 0)
  · exact (run_of_step (hreport s hwf _) 1).trans (run_of_step (hled (s.deliver (reportOf s.cfg s.km)) hwf rest) 0)

/-! ### Refused configurations -/

/-- An entry above 0xE7 at a byte that is no prefix value makes its table ill formed. -/
theorem tableWf_entry {k : CodeSetConfig} {t : Table} (h : k.tableWf t = true) {e : Byte × Byte} (he : e ∈ t)
    (hb : k.isPrefix e.1 = false) : e.2.toNat ≤ maxKeyId := by
  have hentry := List.all_eq_true.mp h e he
  simpa [hb] using hentry

/-- Settles O12: the entry is in a table of one of the two code sets, and neither may be ill formed. -/
theorem aReservedTableEntryIsRefused : Obligations.AReservedTableEntryIsRefused := by
  unfold Obligations.AReservedTableEntryIsRefused
  intro s k e hk he hrel hext hspec hlarge
  have hprefix : k.isPrefix e.1 = false := by simp [CodeSetConfig.isPrefix, hrel, hext, hspec]
  have hset : k.wf ≠ true := by
    intro hwf
    simp only [CodeSetConfig.wf, Bool.and_eq_true] at hwf
    obtain ⟨⟨-, hprimary⟩, hextended⟩ := hwf
    have hle : e.2.toNat ≤ maxKeyId :=
      he.elim (tableWf_entry hprimary · hprefix) (tableWf_entry hextended · hprefix)
    exact absurd hlarge (Nat.not_lt.mpr hle)
  have hwf : s.cfg.wf ≠ true := by
    intro hwf
    simp only [Config.wf, Bool.and_eq_true] at hwf
    obtain ⟨⟨-, h3⟩, hX⟩ := hwf
    obtain rfl | rfl := hk
    · exact hset h3
    · exact hset hX
  exact if_neg hwf

/-! ### FG's turn -/

/-- Settles O13: the selected operation is decoded and run, then an edge it made is taken. -/
theorem aForegroundStepRunsTheSelectedOperation : Obligations.AForegroundStepRunsTheSelectedOperation := by
  unfold Obligations.AForegroundStepRunsTheSelectedOperation
  intro s s1 rest sel i hwf hfetch hdecode
  have hturn : fgStep (s.withInputs rest) = exec i s1 :=
    (fgStep_of_fetch hfetch).trans (runSelector_of_decode hdecode)
  refine ⟨?_, ?_⟩
  · rw [step_withInputs hwf]
    simp only [applyStimulus, hturn]
  · rintro rfl
    rw [step_nil (s := s.withInputs []) hwf rfl, hturn]

/-- Settles O14: Translate of the popped byte is the operation its selector names, and leaves the lines alone. -/
theorem aDrainStepTranslatesThePoppedByte : Obligations.ADrainStepTranslatesThePoppedByte := by
  unfold Obligations.ADrainStepTranslatesThePoppedByte
  intro s b i hwf hi hfree hfg hb hdecode
  have hturn := fgStep_at_drain_popped hfree hfg hb
  have hop : exec (.translate b) { s with popped := none } = exec i { s with popped := none } :=
    exec_translate_of_decode hdecode
  obtain ⟨tr, event, hnext⟩ := exec_translate_reads_cfg_tr b { s with popped := none }
  rw [← hop, hnext _ rfl rfl]
  exact step_of_fgStep hwf hi (hturn.trans (hnext _ rfl rfl)) rfl

theorem cmdPoll_clk (s : State) : (cmdPoll s).clk = s.clk := by
  simp [State.clk]

/-- The poll of the reply wait is the operation of the reply at the head of the queue, on the queue without it. -/
theorem exec_reply_eq_cmdPoll {s : State} {b : Byte} {i : Instr} (hhead : s.queueHead = some b)
    (hdecode : decode s.cfg (.reply b) = .ok i) : exec i (queueDrop s) = .next (cmdPoll s) := by
  have hfetch : replyFetch s = (.reply b, queueDrop s) := by simp only [replyFetch, hhead]
  have hrun := runs_replyFetch s
  rw [hfetch, runSelector_of_decode (s := queueDrop s) (i := i) (by rw [queueDrop_cfg]; exact hdecode)] at hrun
  exact hrun

theorem exec_replyNone_eq_cmdPoll {s : State} (hhead : s.queueHead = none) : exec .replyNone s = .next (cmdPoll s) := by
  simp only [cmdPoll, hhead]
  rfl

/-- Settles O15: FG's turn is the poll of S.CMD, which leaves the lines alone. -/
theorem aReplyStepRunsTheReplyOperation : Obligations.AReplyStepRunsTheReplyOperation := by
  unfold Obligations.AReplyStepRunsTheReplyOperation
  intro s hwf hi hdue hcmd hrest
  have hstep : step s = .next (cmdPoll s) :=
    step_of_fgStep hwf hi (fgStep_of_wait hdue hrest hcmd) (cmdPoll_clk s)
  exact ⟨fun b i hhead hdecode => hstep.trans (exec_reply_eq_cmdPoll hhead hdecode).symm,
    fun hhead => hstep.trans (exec_replyNone_eq_cmdPoll hhead).symm⟩

/-! ### An edge, an event -/

/-- Settles O16: DEV's pull makes `clk` fall, so the step is RX.STEP with the data level after it. -/
theorem anEdgeStepRunsTheReceiveOperation : Obligations.AnEdgeStepRunsTheReceiveOperation := by
  unfold Obligations.AnEdgeStepRunsTheReceiveOperation
  intro s dataLow rest hwf hclk
  have hstep : step (s.withInputs (.dev true dataLow :: rest)) =
      takeEdge (s.withInputs rest) (setDev true dataLow (s.withInputs rest)) := step_withInputs hwf _ rest
  rw [hstep]
  refine ⟨fun hsupp => takeEdge_of_suppressed hsupp, fun i henabled hedge hdecode => ?_⟩
  have hlow : (setDev true dataLow (s.withInputs rest)).clk = false := by simp [State.clk]
  rw [takeEdge_of_fall (s := s.withInputs rest) hclk hlow]
  refine (rxEdge_of_enabled (s := setDev true dataLow (s.withInputs rest)) _ henabled hedge).trans (rxDispatch_of_decode ?_)
  rw [rxStale_bitCount_eq] at hdecode ⊢
  rw [rxStale_cfg]
  exact hdecode

/-- Settles O17: one action of the environment each; the latched edge is RX.STEP, which does not latch it again. -/
theorem anEventStepRunsItsOperation : Obligations.AnEventStepRunsItsOperation := by
  unfold Obligations.AnEventStepRunsItsOperation
  intro s u w n c d rest hwf
  have hstep (x : Stimulus) : step (s.withInputs (x :: rest)) = applyStimulus x (s.withInputs rest) :=
    step_withInputs hwf x rest
  have hspurious : step (s.withInputs (.spuriousEdge :: rest)) = spuriousEdge (s.withInputs rest) := hstep .spuriousEdge
  refine ⟨hstep _, hstep _, hstep _, hstep _, hstep _, fun hlevel => ?line, fun hnever => ?never, fun hmaybe => ⟨?_, ?_⟩⟩
  case line =>
    refine (hstep _).trans (takeEdge_of_clk ?_)
    obtain hlow | rfl := hlevel
    · exact .inl hlow
    · cases hclk : s.clk with
      | false => exact .inl hclk
      | true =>
        have hhost : s.drive.clkLow = false := by
          simp only [State.clk, Bool.not_eq_true', Bool.or_eq_false_iff] at hclk
          exact hclk.1
        exact .inr (by simp [State.clk, hhost])
  case never =>
    rw [hspurious]
    simp only [spuriousEdge, withInputs_cfg, hnever]
  · intro hlatched hended
    have hedge : step (s.withInputs (.spuriousEdge :: rest)) =
        exec .rxStep { s.withInputs rest with edgeLatched := false } := by
      have hcond : ((s.withInputs rest).edgeLatched && writeJustEnded (s.withInputs rest)) = true :=
        Bool.and_eq_true_iff.mpr ⟨hlatched, hended⟩
      rw [hspurious]
      simp only [spuriousEdge, withInputs_cfg, hmaybe, hcond, if_true]
    exact ⟨hedge, fun t ht => (rxEdge_receiverFrame _ _ t (hedge ▸ ht)).edgeLatched_eq⟩
  · intro hnone
    have hcond : ((s.withInputs rest).edgeLatched && writeJustEnded (s.withInputs rest)) = false := by
      rw [Bool.and_eq_false_iff]
      exact hnone
    rw [hspurious]
    simp only [spuriousEdge, withInputs_cfg, hmaybe, hcond, Bool.false_eq_true, if_false]

end Sys2Proof.Machine

/-! Proofs. The ring's bounds (R61), the translator's round trip and its prefixes (R182 to R191), delivery (R208), and a key byte on
its way from the queue to the report. -/

namespace Sys2Proof.Machine

/-! ### The ring's bounds -/

theorem occupancy_lt {s : State} (hq : QueueInv s) : s.occupancy < s.cfg.queueSlots :=
  Nat.mod_lt _ (Nat.lt_of_le_of_lt (Nat.zero_le _) hq.wr_lt)

/-- The cursor behind the last byte meets the read cursor exactly when one cell is left. -/
theorem full_iff_occupancy {s : State} (hq : QueueInv s) (hslots : 2 ≤ s.cfg.queueSlots) :
    nextSlot s.cfg s.q.wr = s.q.rd ↔ s.occupancy = s.cfg.queueSlots - 1 := by
  have hwr := hq.wr_lt
  have hrd := hq.rd_lt
  rw [nextSlot_eq hwr, occupancy_eq hq]
  split <;> split <;> omega

/-- Settles O34: the queued bytes are as many as the occupancy says, which is below N. -/
theorem theRingHoldsAtMostNMinusOneBytes : Obligations.TheRingHoldsAtMostNMinusOneBytes := by
  unfold Obligations.TheRingHoldsAtMostNMinusOneBytes
  intro s hwf hq
  have hslots := (Config.limits_of_wf hwf).1
  refine ⟨queued_length s, Nat.le_sub_one_of_lt (occupancy_lt hq), queued_eq_nil hq, ?_⟩
  rw [queued_length]
  exact full_iff_occupancy hq (by omega)

/-! ### The translator -/

/-- Settles O35: one update of the flags and the result each. -/
theorem aPrefixByteSetsItsFlag : Obligations.APrefixByteSetsItsFlag := by
  unfold Obligations.APrefixByteSetsItsFlag
  exact ⟨fun s b => ⟨rfl, rfl, rfl, rfl⟩, fun s rel id => rfl⟩

theorem exec_translate_key {s : State} {b : Byte} (hclass : classify s.cfg b = .key) :
    exec (.translate b) s = .next (translateKey b s) := by
  rw [exec_translate, hclass]
  rfl

theorem exec_translate_release {s : State} : exec (.translate s.cfg.active.releasePrefix) s = .next (translateRelease s) := by
  rw [exec_translate, classify_releasePrefix]
  rfl

theorem keyIdOf_plain {s : State} (b : Byte) (hspecial : s.tr.special = false) (hextended : s.tr.extended = false) :
    keyIdOf s b = tbl s.cfg false b := by
  simp [keyIdOf, hspecial, hextended]

/-- Settles O38: the second time only the release flag is set, and it is what the event carries. -/
theorem translationRoundTrip : Obligations.TranslationRoundTrip := by
  unfold Obligations.TranslationRoundTrip
  intro s b htr hclass hne
  have hpress : keyIdOf s b = tbl s.cfg false b := keyIdOf_plain b (by rw [htr]; rfl) (by rw [htr]; rfl)
  have hrelease : keyIdOf (translateRelease (translateKey b s)) b = tbl s.cfg false b :=
    keyIdOf_plain (s := translateRelease (translateKey b s)) b rfl rfl
  refine ⟨_, _, _, exec_translate_key hclass, ?_, exec_translate_release (s := translateKey b s), rfl,
    exec_translate_key (s := translateRelease (translateKey b s)) hclass, ?_, rfl⟩
  · rw [translateKey_event, hpress, if_neg hne, htr]
    rfl
  · rw [translateKey_event, hrelease, if_neg hne]
    rfl

/-- A prefix byte yields no event, keeps the special flag, and sets the release flag if it is the release prefix (R182 to R184). -/
theorem exec_translate_prefix {s : State} {q : Byte} (hclass : classify s.cfg q ≠ .key) :
    ∃ u, exec (.translate q) s = .next u ∧ u.cfg = s.cfg ∧ u.event = none ∧
      u.tr.special = (s.tr.special || decide (classify s.cfg q = .special)) ∧
      u.tr.release = (s.tr.release || decide (q = s.cfg.active.releasePrefix)) := by
  have hrel : decide (q = s.cfg.active.releasePrefix) = decide (classify s.cfg q = .release) :=
    decide_eq_decide.mpr classify_eq_release.symm
  rw [exec_translate, hrel]
  cases hq : classify s.cfg q with
  | release => exact ⟨_, rfl, rfl, rfl, (Bool.or_false _).symm, (Bool.or_true _).symm⟩
  | extended => exact ⟨_, rfl, rfl, rfl, (Bool.or_false _).symm, (Bool.or_false _).symm⟩
  | special => exact ⟨_, rfl, rfl, rfl, (Bool.or_true _).symm, (Bool.or_false _).symm⟩
  | key => exact absurd hq hclass

/-- Any prefix bytes behind the special prefix: the special flag stays, the release flag says whether one was the release prefix. -/
theorem translateAll_prefixes {s : State} {qs : List Byte} (hspecial : s.tr.special = true) (hevent : s.event = none)
    (hqs : ∀ q ∈ qs, classify s.cfg q ≠ .key) :
    ∃ u, translateAll qs s = .next u ∧ u.cfg = s.cfg ∧ u.event = none ∧ u.tr.special = true ∧
      u.tr.release = (s.tr.release || decide (s.cfg.active.releasePrefix ∈ qs)) := by
  induction qs generalizing s with
  | nil => exact ⟨s, rfl, rfl, hevent, hspecial, by simp⟩
  | cons q qs ih =>
    obtain ⟨u, hu, hcfg, hevent', hspecial', hrelease⟩ := exec_translate_prefix (hqs q List.mem_cons_self)
    obtain ⟨v, hv, hcfg', hrest⟩ := ih (s := u) (by rw [hspecial', hspecial, Bool.true_or]) hevent'
      (fun x hx => hcfg ▸ hqs x (List.mem_cons_of_mem q hx))
    refine ⟨v, by rw [translateAll, hu, andThen_of_next, hv], hcfg'.trans hcfg, ?_⟩
    obtain ⟨hnone, hsticky, hflag⟩ := hrest
    have hmem : (q = s.cfg.active.releasePrefix ∨ s.cfg.active.releasePrefix ∈ qs) ↔
        s.cfg.active.releasePrefix ∈ q :: qs := by rw [List.mem_cons, eq_comm]
    refine ⟨hnone, hsticky, ?_⟩
    rw [hflag, hrelease, hcfg, Bool.or_assoc, ← Bool.decide_or, decide_eq_decide.mpr hmem]

/-- Settles O39: the flag is set by the first byte and read by the key byte. -/
theorem theSpecialPrefixIsSticky : Obligations.TheSpecialPrefixIsSticky := by
  unfold Obligations.TheSpecialPrefixIsSticky
  intro s p x qs hwf htr hp hx hqs
  have hclass := classify_specialPrefix hwf hp
  have hne : p ≠ s.cfg.active.releasePrefix := (CodeSetConfig.specialPrefix_of_wf (Config.active_wf hwf) hp).1
  obtain ⟨u, hu, hcfg, hevent, hspecial, hrelease⟩ := exec_translate_prefix (s := s) (q := p) (by rw [hclass]; decide)
  rw [hclass, decide_eq_true rfl, Bool.or_true] at hspecial
  rw [htr, decide_eq_false hne] at hrelease
  obtain ⟨v, hv, hcfg', hevent', hspecial', hrelease'⟩ := translateAll_prefixes hspecial hevent (hcfg ▸ hqs)
  rw [hrelease, hcfg] at hrelease'
  have hid : keyIdOf v x = s.cfg.active.specialId := by
    simp only [keyIdOf, hspecial', if_true, hcfg', hcfg]
  have hzero : s.cfg.active.specialId ≠ 0x00 := by
    intro hzero
    have hkey := CodeSetConfig.specialId_of_wf (Config.active_wf hwf)
    rw [hzero] at hkey
    cases hkey
  refine ⟨v, _, by rw [translateAll, hu, andThen_of_next, hv], hevent',
    exec_translate_key (by rw [hcfg', hcfg]; exact hx), rfl, ?_⟩
  rw [translateKey_event, hid, if_neg hzero, hrelease']
  rfl

/-! ### Delivery -/

section
variable {s : State} (hwf : s.cfg.wf = true) (hfree : s.foregroundFree) (hi : s.env.inputs = [])
include hwf hfree hi

theorem step_at_empty_drain (hfg : s.fg = .drain) (hb : s.popped = none) (he : s.event = none) (hq : s.q.wr = s.q.rd) :
    step s = .next { s with fg := .deliver } := by
  have hempty : s.queueEmpty = true := decide_eq_true hq
  refine step_of_fgStep hwf hi ?_ rfl
  rw [fgStep_at_drain_pop hfree hfg hb he, if_pos hempty, exec_qPop_of_empty (s := { s with fg := .deliver }) hempty, ← hb]

theorem step_at_deliver (hfg : s.fg = .deliver) : step s = exec .rDeliver { s with fg := .led } := by
  have hturn := fgStep_at_deliver hfree hfg
  rw [exec_rDeliver] at hturn ⊢
  split at hturn
  next heq => rw [if_pos heq]; exact step_of_fgStep hwf hi hturn rfl
  next hne => rw [if_neg hne]; exact step_of_fgStep hwf hi hturn rfl

end

/-- Settles O43: `exec_rDeliver` branches on the comparison; the drain leaves for the delivery position when the queue is empty. -/
theorem deliveryOnChange : Obligations.DeliveryOnChange := by
  unfold Obligations.DeliveryOnChange
  refine ⟨fun s => ?_, fun s hwf hfree hi =>
    ⟨step_at_empty_drain hwf hfree hi, step_at_deliver hwf hfree hi⟩⟩
  rw [exec_rDeliver]
  split
  next heq => exact ⟨s, rfl, fun _ => rfl, fun hne => absurd heq hne⟩
  next hne => exact ⟨_, rfl, fun heq => absurd heq hne, fun _ => rfl⟩

/-! ### From the queue to the report -/

/-- The queue's one byte is its head, and nothing is queued behind it. -/
theorem queueHead_of_queued_singleton {s : State} (hq : QueueInv s) {b : Byte} (h : s.queued = [b]) :
    s.queueEmpty = false ∧ s.queueHead = some b ∧ (queueDrop s).queued = [] := by
  have hempty : s.queueEmpty = false := by
    refine decide_eq_false fun hcursors => ?_
    rw [(queued_eq_nil hq).mpr hcursors] at h
    cases h
  obtain ⟨c, hhead⟩ : ∃ c, s.queueHead = some c := ⟨_, queueHead_of_nonempty hq hempty⟩
  have hcons := queueHead_queued hq hhead
  rw [h] at hcons
  obtain ⟨rfl, hrest⟩ := List.cons.inj hcons
  exact ⟨hempty, hhead, hrest.symm⟩

section
variable {s : State} (hwf : s.cfg.wf = true) (hfree : s.foregroundFree) (hi : s.env.inputs = []) (hfg : s.fg = .drain)
include hwf hfree hi hfg

theorem step_pops {b : Byte} (hb : s.popped = none) (he : s.event = none) (hempty : s.queueEmpty = false)
    (hhead : s.queueHead = some b) : step s = .next { queueDrop s with popped := some b } := by
  refine step_of_fgStep hwf hi ?_ (by simp [State.clk])
  rw [fgStep_at_drain_pop hfree hfg hb he, hempty, if_neg Bool.false_ne_true, ← hfg, ← hhead]
  rfl

theorem step_translates_key {b : Byte} (hb : s.popped = some b) (hclass : classify s.cfg b = .key) :
    step s = .next (translateKey b { s with popped := none }) := by
  refine step_of_fgStep hwf hi ?_ rfl
  rw [fgStep_at_drain_popped hfree hfg hb]
  exact exec_translate_key (s := { s with popped := none }) hclass

theorem step_applies {e : Byte × Bool} (hb : s.popped = none) (he : s.event = some e) (hkey : isKeyId e.1 = true) :
    step s = .next { s with event := none, km := applyEvent e.1 e.2 s.km } :=
  step_of_fgStep hwf hi (fgStep_at_drain_event hfree hfg hb he hkey) rfl

end

/-- The state once the one queued byte `b` has been popped, translated to `id` and applied. -/
def keyApplied (id : Byte) (s : State) : State :=
  { queueDrop s with popped := none, event := none, tr := Translator.neutral, km := applyEvent id false s.km }

/-- Three steps take a plain key byte from the queue into the matrix. -/
theorem run_key_to_matrix {s : State} (h : Inv s) (hfree : s.foregroundFree) (hi : s.env.inputs = []) (hfg : s.fg = .drain)
    {b : Byte} (hb : s.popped = none) (he : s.event = none) (hempty : s.queueEmpty = false) (hhead : s.queueHead = some b)
    (htr : s.tr = Translator.neutral) (hclass : classify s.cfg b = .key) (hne : tbl s.cfg false b ≠ 0x00) :
    run 3 s = .next (keyApplied (tbl s.cfg false b) s) := by
  have hwf : (queueDrop s).cfg.wf = true := by simpa using h.cfg_wf
  have hfree' : (queueDrop s).foregroundFree := by simpa [State.foregroundFree] using hfree
  have hi' : (queueDrop s).env.inputs = [] := by simpa using hi
  have hfg' : (queueDrop s).fg = .drain := by simpa using hfg
  have hclass' : classify (queueDrop s).cfg b = .key := by simpa using hclass
  have hid : keyIdOf { queueDrop s with popped := none } b = tbl s.cfg false b := by
    rw [keyIdOf_plain (s := { queueDrop s with popped := none }) b (by simp [htr, Translator.neutral])
      (by simp [htr, Translator.neutral]), queueDrop_cfg]
  have hkey : isKeyId (tbl s.cfg false b) = true :=
    hid ▸ isKeyId_keyIdOf (t := { queueDrop s with popped := none }) hwf hclass' (hid ▸ hne)
  have hevent : (translateKey b { queueDrop s with popped := none }).event = some (tbl s.cfg false b, false) := by
    rw [translateKey_event, hid, if_neg hne, queueDrop_tr, htr]
    rfl
  have hpop := step_pops h.cfg_wf hfree hi hfg hb he hempty hhead
  have htranslate := step_translates_key (s := { queueDrop s with popped := some b }) hwf hfree' hi' hfg' rfl hclass'
  have happly := step_applies (s := translateKey b { queueDrop s with popped := none }) hwf hfree' hi' hfg' rfl hevent hkey
  rw [run_of_step hpop, run_of_step htranslate, run_of_step happly]
  simp only [run, keyApplied, translateKey, queueDrop_km]

/-- Settles O44: pop, translate, apply, a pop that finds the queue empty, deliver. -/
theorem aQueuedKeyByteReachesTheReport : Obligations.AQueuedKeyByteReachesTheReport := by
  unfold Obligations.AQueuedKeyByteReachesTheReport
  intro s b h hfree hfg hb he hi hqueued htr hkm hlast hclass hne hmod
  obtain ⟨hempty, hhead, hrest⟩ := queueHead_of_queued_singleton h.queue hqueued
  have hpos : 1 ≤ (tbl s.cfg false b).toNat :=
    Nat.one_le_iff_ne_zero.mpr fun hzero => hne (BitVec.eq_of_toNat_eq hzero)
  have hreport : reportOf (queueDrop s).cfg (applyEvent (tbl s.cfg false b) false s.km) =
      { Report.zero with slot0 := tbl s.cfg false b } := by
    rw [hkm, reportOf_press_zero (by simpa using (Config.limits_of_wf h.cfg_wf).2.2.2.2.1) hpos hmod]
  have hchanged : ({ Report.zero with slot0 := tbl s.cfg false b } : Report) ≠ (queueDrop s).lastReport := by
    rw [queueDrop_lastReport, hlast]
    exact fun heq => hne (congrArg Report.slot0 heq)
  have hmatrix := run_key_to_matrix h hfree hi hfg hb he hempty hhead htr hclass hne
  have hwf' : (queueDrop s).cfg.wf = true := by simpa using h.cfg_wf
  have hfree' : (queueDrop s).foregroundFree := by simpa [State.foregroundFree] using hfree
  have hi' : (queueDrop s).env.inputs = [] := by simpa using hi
  have hcursors := (queued_eq_nil (queueDrop_inv h.queue)).mp hrest
  have hleave := step_at_empty_drain (s := keyApplied (tbl s.cfg false b) s) hwf' hfree' hi' (by simpa [keyApplied] using hfg)
    rfl rfl hcursors
  have hdeliver := step_at_deliver (s := { keyApplied (tbl s.cfg false b) s with fg := .deliver }) hwf' hfree' hi' rfl
  rw [exec_rDeliver] at hdeliver
  simp only [keyApplied, hreport, if_neg hchanged] at hdeliver
  refine ⟨_, (run_add_of_next hmatrix 2).trans ((run_of_step hleave 1).trans (run_of_step hdeliver 0)), rfl, ?_, ?_, rfl, ?_⟩
  · exact hrest
  · rw [hkm]
    exact (applyEvent_press_zero_bit _ _).trans (decide_eq_true rfl)
  · exact congrArg _ (congrArg Observed.reports (queueDrop_out s))

end Sys2Proof.Machine

/-! Proofs. The write path (41_line_tx.md): its start, each poll, its two ends, and a device that clocks out the whole write. -/

namespace Sys2Proof.Machine

/-! ### The start of a write -/

theorem TxPhase.atRest_iff {p : TxPhase} : p.atRest = true ↔ p = .idle ∨ p = .done := by
  cases p <;> simp [TxPhase.atRest]

theorem txBegin_of_running {s : State} (hrun : s.tx.phase.atRest = false) (b : Byte) :
    txBegin b s = .fault .reentrantWrite := by
  simp only [txBegin, hrun, Bool.false_eq_true, if_false]

/-- Settles O45: both operations are `txBegin`, which tests for rest. -/
theorem aWriteStartsOnlyAtRest : Obligations.AWriteStartsOnlyAtRest := by
  unfold Obligations.AWriteStartsOnlyAtRest
  refine fun s b => ⟨fun hrest => ?_, fun hidle hdone => ?_⟩
  · have hrest := TxPhase.atRest_iff.mpr hrest
    exact ⟨txBegin_of_rest hrest b, txBegin_of_rest hrest s.cfg.cmdResend⟩
  · have hrun : s.tx.phase.atRest = false :=
      Bool.eq_false_iff.mpr fun hrest => (TxPhase.atRest_iff.mp hrest).elim hidle hdone
    exact ⟨txBegin_of_running hrun b, txBegin_of_running hrun s.cfg.cmdResend⟩

/-! ### The polls -/

theorem busIdle_iff {s : State} : busIdle s = true ↔ s.clk = true ∧ s.data = true ∧ s.rx.bitCount = 0 := by
  simp only [busIdle, Bool.and_eq_true, decide_eq_true_eq, and_assoc]

theorem txExpired_eq_true {limit : Nat} {s : State} :
    txExpired limit s = true ↔ elapsed s.cfg.timeW s.tx.t0 s.env.msNow > limit := expired_eq_true

theorem txExpired_eq_false {limit : Nat} {s : State} :
    txExpired limit s = false ↔ elapsed s.cfg.timeW s.tx.t0 s.env.msNow ≤ limit := expired_eq_false

@[simp] theorem txExpired_rxStale (limit : Nat) (s : State) : txExpired limit (rxStale s) = txExpired limit s := by
  simp [txExpired]

theorem exec_txWaitIdle (s : State) : exec .txWaitIdle s =
    if busIdle (rxStale s) then .next (setTxPhase .settle (rxStale s))
    else if txExpired s.cfg.tIdleMs s then .next (txFail .busBusy (rxStale s)) else .next (rxStale s) := by
  simp only [exec, execTxWaitIdle, txExpired_rxStale]

/-- Settles O46: the branches of `exec_txWaitIdle`. -/
theorem theBusIdlePoll : Obligations.TheBusIdlePoll := by
  unfold Obligations.TheBusIdlePoll
  rintro s u rfl
  rw [exec_txWaitIdle]
  by_cases hidle : busIdle (rxStale s) = true
  · rw [if_pos hidle]
    exact ⟨_, rfl, fun _ => rfl, fun hbusy => absurd (busIdle_iff.mp hidle) hbusy⟩
  · have hbusy := mt busIdle_iff.mpr hidle
    rw [if_neg hidle]
    cases hlate : txExpired s.cfg.tIdleMs s with
    | true =>
      exact ⟨_, rfl, fun h => absurd h hbusy,
        fun _ => ⟨fun _ => rfl, fun hin => absurd hin (Nat.not_le.mpr (txExpired_eq_true.mp hlate))⟩⟩
    | false =>
      exact ⟨_, rfl, fun h => absurd h hbusy,
        fun _ => ⟨fun hout => absurd hout (Nat.not_lt.mpr (txExpired_eq_false.mp hlate)), fun _ => rfl⟩⟩

/-- Settles O47: the re-check masks on an idle bus only, where no frame is in flight; the other two are one update each. -/
theorem theHandlerIsMaskedBeforeTheLinesAreDriven : Obligations.TheHandlerIsMaskedBeforeTheLinesAreDriven := by
  unfold Obligations.TheHandlerIsMaskedBeforeTheLinesAreDriven
  refine ⟨?settle, fun s => ⟨rfl, rfl⟩⟩
  rintro s u rfl
  by_cases hidle : busIdle (rxStale s) = true
  · exact ⟨_, if_pos hidle, fun _ => ⟨rfl, busIdle_count hidle⟩, fun hbusy => absurd (busIdle_iff.mp hidle) hbusy⟩
  · exact ⟨_, if_neg hidle, fun h => absurd (busIdle_iff.mpr h) hidle, fun _ => rfl⟩

/-- Settles O50: both ends are `txFinish`. -/
theorem everyEndOfAWriteRestoresTheHandler : Obligations.EveryEndOfAWriteRestoresTheHandler := by
  unfold Obligations.EveryEndOfAWriteRestoresTheHandler
  exact fun s f => ⟨⟨_, rfl, rfl⟩, ⟨_, rfl, rfl⟩⟩

/-! ### The bits of the frame on the line -/

theorem frameOf_data (b : Byte) {j : Nat} (hj : j < 8) : (frameOf b).getLsbD (j + 1) = b.getLsbD j := by
  rw [← frameByte_bit _ hj, (frameOfAByteIsValid b).2.1]

theorem frameOf_tail (b : Byte) : (frameOf b).getLsbD 9 = parityBit b ∧ (frameOf b).getLsbD 10 = true := by
  revert b
  decide +kernel

/-- What the host drives after pulse `k` is wire bit `k` of the frame (R96, R159). -/
theorem dataDriveAt_eq (b : Byte) {k : BitVec 4} (h1 : 1 ≤ k.toNat) (h10 : k.toNat ≤ 10) (old : Bool) :
    dataDriveAt b k old = !(frameOf b).getLsbD k.toNat := by
  obtain ⟨hparity, hstop⟩ := frameOf_tail b
  unfold dataDriveAt driveBit
  split_ifs with h8 h9 h10'
  · have hbit := frameOf_data b (j := k.toNat - 1) (by omega)
    rw [Nat.sub_add_cancel h1] at hbit
    rw [hbit]
  · rw [h9, hparity]
  · rw [h10', hstop]
  · omega

section
variable {s : State}

theorem exec_txWaitLow_low (hclk : s.clk = false) : exec .txWaitLow s = .next { s with
    drive := { s.drive with dataLow := dataDriveAt s.tx.byte (s.tx.index + 1) s.drive.dataLow }
    tx := { s.tx with index := s.tx.index + 1, phase := .waitHigh } } := by
  simp only [exec, execTxWaitLow, hclk, Bool.not_false, if_true]

theorem exec_txWaitLow_high (hclk : s.clk = true) : exec .txWaitLow s =
    if txExpired s.cfg.tClockoutMs s then exec (.txFail .clockTimeout) s else .next s := by
  simp only [exec, execTxWaitLow, hclk, Bool.not_true, Bool.false_eq_true, if_false, execTxFail]

theorem exec_txWaitHigh_high (hclk : s.clk = true) : exec .txWaitHigh s =
    .next (setTxPhase (if s.tx.index.toNat < 10 then .waitLow else .ackWaitLow) s) := by
  simp only [exec, execTxWaitHigh, hclk, if_true]

theorem exec_txWaitHigh_low (hclk : s.clk = false) : exec .txWaitHigh s =
    if txExpired s.cfg.tClockoutMs s then exec (.txFail .clockTimeout) s else .next s := by
  simp only [exec, execTxWaitHigh, hclk, Bool.false_eq_true, if_false, execTxFail]

theorem exec_txAckWaitLow_low (hclk : s.clk = false) : exec .txAckWaitLow s = exec (.txLineAck s.data) s := by
  simp only [exec, execTxAckWaitLow, hclk, Bool.not_false, if_true, execTxLineAck]

theorem exec_txAckWaitLow_high (hclk : s.clk = true) : exec .txAckWaitLow s =
    if txExpired s.cfg.tClockoutMs s then exec (.txFail .ackTimeout) s else .next s := by
  simp only [exec, execTxAckWaitLow, hclk, Bool.not_true, Bool.false_eq_true, if_false, execTxFail]

theorem exec_txAckWaitRelease_released (hclk : s.clk = true) (hdata : s.data = true) :
    exec .txAckWaitRelease s = exec .txSucceed s := by
  simp only [exec, execTxAckWaitRelease, hclk, hdata, Bool.and_self, if_true, execTxSucceed]

theorem exec_txAckWaitRelease_held (hheld : ¬ (s.clk = true ∧ s.data = true)) : exec .txAckWaitRelease s =
    if txExpired s.cfg.tClockoutMs s then exec (.txFail .ackTimeout) s else .next s := by
  simp only [exec, execTxAckWaitRelease, Bool.and_eq_true, if_neg hheld, execTxFail]

end

/-- A wait without its level: past the limit it fails, within it nothing changes. -/
theorem wait_branches {s : State} {limit : Nat} {o failed : Outcome}
    (h : o = if txExpired limit s then failed else .next s) :
    (elapsed s.cfg.timeW s.tx.t0 s.env.msNow > limit → o = failed) ∧
    (elapsed s.cfg.timeW s.tx.t0 s.env.msNow ≤ limit → o = .next s) :=
  ⟨fun hlate => h.trans (if_pos (txExpired_eq_true.mpr hlate)),
    fun hin => h.trans (if_neg (by rw [txExpired_eq_false.mpr hin]; exact Bool.false_ne_true))⟩

/-- Settles O48: the level awaited moves the phase, and the index and the line with it; without it the wait goes on or fails. -/
theorem aClockPulsePlacesTheNextFrameBit : Obligations.AClockPulsePlacesTheNextFrameBit := by
  unfold Obligations.AClockPulsePlacesTheNextFrameBit
  intro s
  refine ⟨⟨fun hclk hlt => ⟨_, exec_txWaitLow_low hclk, rfl, rfl, index_succ_toNat hlt, ?_⟩,
      fun hclk => (wait_branches (exec_txWaitLow_high hclk)).1, fun hclk => (wait_branches (exec_txWaitLow_high hclk)).2⟩,
    fun hclk hlt => ?_, fun hclk hge => ?_,
    fun hclk => (wait_branches (exec_txWaitHigh_low hclk)).1, fun hclk => (wait_branches (exec_txWaitHigh_low hclk)).2⟩
  · have hsucc := index_succ_toNat hlt
    rw [← hsucc]
    exact dataDriveAt_eq s.tx.byte (by omega) (by omega) s.drive.dataLow
  · rw [exec_txWaitHigh_high hclk, if_pos hlt]
    rfl
  · rw [exec_txWaitHigh_high hclk, if_neg (Nat.not_lt.mpr hge)]
    rfl

/-- Settles O49: the same for the acknowledgment pulse, whose level decides. -/
theorem theLineAcknowledgment : Obligations.TheLineAcknowledgment := by
  unfold Obligations.TheLineAcknowledgment
  intro s
  refine ⟨⟨rfl, rfl⟩, ⟨fun hclk hdata => ?_, fun hclk hdata => ?_,
      fun hclk => (wait_branches (exec_txAckWaitLow_high hclk)).1, fun hclk => (wait_branches (exec_txAckWaitLow_high hclk)).2⟩,
    exec_txAckWaitRelease_released, fun hheld => (wait_branches (exec_txAckWaitRelease_held hheld)).1,
    fun hheld => (wait_branches (exec_txAckWaitRelease_held hheld)).2, ?_⟩
  · rw [exec_txAckWaitLow_low hclk, hdata]
    rfl
  · rw [exec_txAckWaitLow_low hclk, hdata]
    rfl
  · simp only [exec, execTxAckWaitRelease]
    split_ifs
    · exact ⟨_, rfl⟩
    · exact ⟨_, rfl⟩
    · exact ⟨_, rfl⟩

/-! ### A device that clocks out the write -/

/-- FG's turn in a schedule, where it makes no falling edge. -/
theorem step_fg_input {s t : State} {rest : List Stimulus} (hwf : s.cfg.wf = true) (hin : s.env.inputs = .fg :: rest)
    (hturn : fgStep (s.withInputs rest) = .next t) (hclk : s.clk = false ∨ t.clk = true) : step s = .next t := by
  rw [step_of_inputs hwf hin]
  simp only [applyStimulus, hturn, andThen_of_next]
  exact takeEdge_of_clk hclk

theorem step_poll_input {s t : State} {i : Instr} {rest : List Stimulus} (hwf : s.cfg.wf = true)
    (hin : s.env.inputs = .fg :: rest) (hdue : s.cmd.writeDue = false) (hpoll : pollOf s.tx.phase = some i)
    (hexec : exec i (s.withInputs rest) = .next t) (hclk : s.clk = false ∨ t.clk = true) : step s = .next t :=
  step_fg_input hwf hin ((fgStep_of_running (s := s.withInputs rest) hdue hpoll).trans hexec) hclk

/-- DEV moves the lines while the handler is suppressed: no edge is taken. -/
theorem step_dev_suppressed {s : State} {c d : Bool} {rest : List Stimulus} (hwf : s.cfg.wf = true)
    (hin : s.env.inputs = .dev c d :: rest) (hsupp : s.rx.suppressed = true) :
    step s = .next (setDev c d (s.withInputs rest)) :=
  (step_of_inputs hwf hin).trans (takeEdge_of_suppressed hsupp)

/-- The write that began in `s`, after `k` device pulses, the clock released: wire bit `k` stands on the line. -/
def pulsed (k : Nat) (rest : List Stimulus) (s : State) : State :=
  { s with
    env := { s.env with devClkLow := false, devDataLow := false, inputs := rest }
    drive := { clkLow := false, dataLow := !(frameOf s.tx.byte).getLsbD k }
    tx := { s.tx with index := BitVec.ofNat 4 k, phase := if k < 10 then .waitLow else .ackWaitLow } }

theorem pulsed_levels (k : Nat) (rest : List Stimulus) (s : State) :
    (pulsed k rest s).clk = true ∧ (pulsed k rest s).data = (frameOf s.tx.byte).getLsbD k := by
  simp [State.clk, State.data, pulsed]

theorem pulsed_index {k : Nat} (hk : k ≤ 10) (rest : List Stimulus) (s : State) :
    (pulsed k rest s).tx.index.toNat = k :=
  (BitVec.toNat_ofNat _ _).trans (Nat.mod_eq_of_lt (by omega))

/-- The low half of pulse `k`, the next bit placed: FG waits for the release of the clock. -/
def pulsedLow (k : Nat) (rest : List Stimulus) (s : State) : State :=
  { s with
    env := { s.env with devClkLow := true, devDataLow := false, inputs := rest }
    drive := { clkLow := false, dataLow := !(frameOf s.tx.byte).getLsbD k }
    tx := { s.tx with index := BitVec.ofNat 4 k, phase := .waitHigh } }

/-- The write right after the start bit is the write after no pulse: wire bit 0 is the start bit, 0. -/
theorem withInputs_eq_pulsed {s : State} (hphase : s.tx.phase = .waitLow) (hindex : s.tx.index = 0)
    (hdrive : s.drive = { clkLow := false, dataLow := true }) (hclock : s.env.devClkLow = false)
    (hdata : s.env.devDataLow = false) (rest : List Stimulus) : s.withInputs rest = pulsed 0 rest s := by
  have hstart := start_of_frameValid (frameOfAByteIsValid s.tx.byte).1
  obtain ⟨cfg, ⟨devClkLow, devDataLow, msNow, inputs⟩, drive, rx, request, q, ⟨phase, byte, index, t0, result⟩⟩ := s
  dsimp only at hphase hindex hdrive hclock hdata hstart
  subst hphase hindex hdrive hclock hdata
  simp only [State.withInputs, pulsed, hstart, Bool.not_false, if_pos (by decide : 0 < 10)]
  rfl

section
variable {s : State} (hwf : s.cfg.wf = true) (hdue : s.cmd.writeDue = false) (hsupp : s.rx.suppressed = true)
include hwf hdue

/-- FG's turn in the low half: the next wire bit is placed. -/
theorem step_pulsed_fg {k : Nat} (hk : k < 10) (rest : List Stimulus) :
    step (setDev true false (pulsed k (.fg :: rest) s)) = .next (pulsedLow (k + 1) rest s) := by
  have hindex : BitVec.ofNat 4 k + 1 = BitVec.ofNat 4 (k + 1) := (BitVec.ofNat_add k 1).symm
  have hnat : (BitVec.ofNat 4 (k + 1)).toNat = k + 1 := (BitVec.toNat_ofNat _ _).trans (Nat.mod_eq_of_lt (by omega))
  have hbit := dataDriveAt_eq s.tx.byte (k := BitVec.ofNat 4 (k + 1)) (by omega) (by omega)
    (!(frameOf s.tx.byte).getLsbD k)
  rw [hnat] at hbit
  have hpoll : pollOf (setDev true false (pulsed k (.fg :: rest) s)).tx.phase = some .txWaitLow := by
    simp only [setDev, pulsed, if_pos hk]
    rfl
  refine step_poll_input hwf rfl hdue hpoll ?turn (.inl rfl)
  rw [exec_txWaitLow_low rfl]
  simp only [setDev, State.withInputs, pulsed, hindex, hbit, pulsedLow]

/-- FG's turn in the high half: on to the next pulse, the acknowledgment pulse after the tenth. -/
theorem step_pulsedLow_fg {k : Nat} (hk : k ≤ 10) (rest : List Stimulus) :
    step (setDev false false (pulsedLow k (.fg :: rest) s)) = .next (pulsed k rest s) := by
  have hnat : (BitVec.ofNat 4 k).toNat = k := (BitVec.toNat_ofNat _ _).trans (Nat.mod_eq_of_lt (by omega))
  refine step_poll_input (i := .txWaitHigh) hwf rfl hdue rfl ?turn (.inr rfl)
  rw [exec_txWaitHigh_high rfl]
  simp only [setTxPhase, setDev, State.withInputs, pulsedLow, hnat, pulsed]

include hsupp

/-- One pulse: the device moves the clock, FG polls, twice. -/
theorem run_pulse {k : Nat} (hk : k < 10) (rest : List Stimulus) :
    run 4 (pulsed k (devicePulse false ++ rest) s) = .next (pulsed (k + 1) rest s) := by
  have hlow : step (pulsed k (devicePulse false ++ rest) s) =
      .next (setDev true false (pulsed k (.fg :: .dev false false :: .fg :: rest) s)) :=
    step_dev_suppressed hwf rfl hsupp
  have hhigh : step (pulsedLow (k + 1) (.dev false false :: .fg :: rest) s) =
      .next (setDev false false (pulsedLow (k + 1) (.fg :: rest) s)) :=
    step_dev_suppressed hwf rfl hsupp
  rw [run_of_step hlow, run_of_step (step_pulsed_fg hwf hdue hk _), run_of_step hhigh,
    run_of_step (step_pulsedLow_fg hwf hdue hk rest)]
  rfl

theorem run_pulses {m : Nat} : ∀ {k : Nat}, k + m ≤ 10 → ∀ rest : List Stimulus,
    run (4 * m) (pulsed k ((List.replicate m (devicePulse false)).flatten ++ rest) s) = .next (pulsed (k + m) rest s) := by
  induction m with
  | zero => exact fun _ _ => rfl
  | succ m ih =>
    intro k hk rest
    rw [List.replicate_succ, List.flatten_cons, List.append_assoc, Nat.mul_succ, Nat.add_comm (4 * m),
      run_add_of_next (run_pulse hwf hdue hsupp (by omega) _), ih (by omega) rest, Nat.add_right_comm, Nat.add_assoc]

/-- The acknowledgment pulse: data held low in its low half, both lines released in its high half. -/
theorem run_ackPulse (rest : List Stimulus) : run 4 (pulsed 10 (devicePulse true ++ rest) s) = .next { s with
    env := { s.env with devClkLow := false, devDataLow := false, inputs := rest }
    drive := { clkLow := false, dataLow := false }
    rx := { s.rx with suppressed := false }
    tx := { s.tx with phase := .done, index := 10, result := true }
    edgeLatched := true } := by
  have hstop : (frameOf s.tx.byte).getLsbD 10 = true := (frameOf_tail s.tx.byte).2
  have hlow : step (pulsed 10 (devicePulse true ++ rest) s) =
      .next (setDev true true (pulsed 10 (.fg :: .dev false false :: .fg :: rest) s)) :=
    step_dev_suppressed hwf rfl hsupp
  have hack : step (setDev true true (pulsed 10 (.fg :: .dev false false :: .fg :: rest) s)) =
      .next (setTxPhase .ackWaitRelease (setDev true true (pulsed 10 (.dev false false :: .fg :: rest) s))) := by
    refine step_poll_input (i := .txAckWaitLow) hwf rfl hdue rfl ?turn (.inl rfl)
    rw [exec_txAckWaitLow_low rfl]
    simp only [exec, execTxLineAck, lineAck, State.data, setDev, pulsed, State.withInputs, Bool.not_true, Bool.or_true,
      Bool.false_eq_true, if_false]
  have hhigh : step (setTxPhase .ackWaitRelease (setDev true true (pulsed 10 (.dev false false :: .fg :: rest) s))) =
      .next (setTxPhase .ackWaitRelease (setDev false false (pulsed 10 (.fg :: rest) s))) :=
    step_dev_suppressed hwf rfl hsupp
  have hdone : step (setTxPhase .ackWaitRelease (setDev false false (pulsed 10 (.fg :: rest) s))) =
      .next (txFinish true (setTxPhase .ackWaitRelease (setDev false false (pulsed 10 rest s)))) := by
    refine step_poll_input (i := .txAckWaitRelease) hwf rfl hdue rfl (exec_txAckWaitRelease_released rfl ?data) (.inr rfl)
    case data => simp [State.data, setDev, pulsed, State.withInputs, setTxPhase, hstop]
  rw [run_of_step hlow, run_of_step hack, run_of_step hhigh, run_of_step hdone]
  simp only [run, txFinish, releaseBus, setTxPhase, setDev, pulsed, hsupp]
  rfl

end

/-- Settles O52: ten pulses, then the acknowledgment pulse. -/
theorem aDeviceReadsTheFrameOfTheByte : Obligations.ADeviceReadsTheFrameOfTheByte := by
  unfold Obligations.ADeviceReadsTheFrameOfTheByte
  intro s rest hwf hdue hphase hindex hdrive hclock hdata hsupp
  have hstart := withInputs_eq_pulsed hphase hindex hdrive hclock hdata
  have hpulses : ∀ k ≤ 10, ∀ more, run (4 * k)
      (s.withInputs ((List.replicate k (devicePulse false)).flatten ++ more)) = .next (pulsed k more s) := by
    intro k hk more
    rw [hstart, run_pulses hwf hdue hsupp (by omega) more, Nat.zero_add]
  refine ⟨fun k hk => ?read, ?ended⟩
  case read =>
    have hsplit : deviceWrite ++ rest = (List.replicate k (devicePulse false)).flatten ++
        ((List.replicate (10 - k) (devicePulse false)).flatten ++ devicePulse true ++ rest) := by
      have : List.replicate 10 (devicePulse false) =
          List.replicate k (devicePulse false) ++ List.replicate (10 - k) (devicePulse false) := by
        rw [List.replicate_append_replicate, Nat.add_sub_cancel' hk]
      simp only [deviceWrite, this, List.flatten_append, List.append_assoc]
    exact ⟨_, hsplit ▸ hpulses k hk _, (pulsed_levels k _ s).1, (pulsed_levels k _ s).2, pulsed_index hk _ s⟩
  case ended =>
    have hten := hpulses 10 le_rfl (devicePulse true ++ rest)
    rw [← List.append_assoc] at hten
    refine ⟨_, (run_add_of_next hten 4).trans (run_ackPulse hwf hdue hsupp rest), ?_⟩
    simp only [hclock, hdata]

end Sys2Proof.Machine

/-! Proofs. The session driver (44_session.md): S.CMD, the startup sequence, S.LED, S.RESEND and the loop, position by position. -/

namespace Sys2Proof.Machine

/-! ### S.CMD -/

/-- S.CMD of `b` after its first attempt was counted: its write is due. -/
def commandStarted (b : Byte) (s : State) : State :=
  { s with cmd := { s.cmd with phase := .send, byte := b, attempts := 1, writeDue := true } }

theorem cmdBegin_of_idle {s : State} (hwf : s.cfg.wf = true) (hidle : s.cmd.phase = .idle) (b : Byte) :
    cmdBegin b s = .next (commandStarted b s) := by
  obtain ⟨-, hattempts, -⟩ := Config.limits_of_wf hwf
  have hleft : ¬ 0 = s.cfg.cmdMaxAttempts := by omega
  simp only [cmdBegin, hidle, if_true, cmdAttempt, if_neg hleft, Nat.zero_add, commandStarted]

theorem cmdBegin_of_inside {s : State} (hinside : s.cmd.phase ≠ .idle) (b : Byte) : cmdBegin b s = .fault .reentrantCommand :=
  if_neg hinside

theorem cmdBegin_of_idle_next {s : State} (hidle : s.cmd.phase = .idle) (b : Byte) : ∃ t, cmdBegin b s = .next t :=
  ⟨_, if_pos hidle⟩

theorem cmdAttempt_attemptFrom (s : State) : AttemptFrom s (cmdAttempt s) := by
  unfold AttemptFrom
  obtain ⟨hlast, h⟩ | ⟨hmore, h⟩ := cmdAttempt_cases s
  · rw [if_pos hlast, h]
  · rw [if_neg hmore, h]

theorem exec_sCmd_idle {s : State} (h : s.cmd.phase = .idle) (b : Byte) : exec (.sCmd b) s = cmdBegin b s := by
  simp only [exec, execSCmd, h]

theorem exec_sCmd_send {s : State} (h : s.cmd.phase = .send) (b : Byte) : exec (.sCmd b) s = .next (cmdAfterWrite s) := by
  simp only [exec, execSCmd, h]

theorem exec_sCmd_wait {s : State} (h : s.cmd.phase = .wait) (b : Byte) : exec (.sCmd b) s = .next (cmdPoll s) := by
  simp only [exec, execSCmd, h]

theorem exec_sCmd_next (b : Byte) (s : State) : ∃ t, exec (.sCmd b) s = .next t := by
  cases h : s.cmd.phase with
  | idle =>
    rw [exec_sCmd_idle h]
    exact cmdBegin_of_idle_next h b
  | send => exact ⟨_, exec_sCmd_send h b⟩
  | wait => exact ⟨_, exec_sCmd_wait h b⟩

/-- A row of the sequence sends its byte as S.CMD sends it, and nothing where the sequence has none. -/
theorem exec_cmdSelectCodeSet (s : State) : exec .cmdSelectCodeSet s = cmdBeginOf s.cfg.startupSeq[0]? s := rfl

theorem exec_cmdDisableTypematic (s : State) : exec .cmdDisableTypematic s = cmdBeginOf s.cfg.startupSeq[2]? s := rfl

theorem cmdBeginOf_of_inside {s : State} (hinside : s.cmd.phase ≠ .idle) {b : Option Byte} (hb : b ≠ none) :
    cmdBeginOf b s = .fault .reentrantCommand := by
  cases b with
  | none => exact absurd rfl hb
  | some c => exact cmdBegin_of_inside hinside c

/-- Settles O53: an attempt at C_IDLE is counted and its write due; each row is that entry with its own byte. -/
theorem anAttemptOfACommand : Obligations.AnAttemptOfACommand := by
  unfold Obligations.AnAttemptOfACommand
  refine ⟨fun s b hwf hidle => ?begins, fun s b => exec_sCmd_next b s, fun s b hsend => ?awaits, fun s hwf hidle => ?rows,
    fun s => ?absent, fun s hinside => ?inside⟩
  case begins => exact (exec_sCmd_idle hidle b).trans (cmdBegin_of_idle hwf hidle b)
  case awaits =>
    rw [exec_sCmd_send hsend]
    refine ⟨fun hrun => ?_, fun hdone hok => ?_, fun hdone hfailed => ⟨_, rfl, ?_⟩⟩
    · rw [cmdAfterWrite, if_neg hrun]
    · rw [cmdAfterWrite, if_pos hdone, if_pos hok]
    · rw [cmdAfterWrite, if_pos hdone, hfailed]
      exact cmdAttempt_attemptFrom s
  case rows =>
    have hbegin := cmdBegin_of_idle hwf hidle
    refine ⟨hbegin _, fun b hb => ?_, fun b hb => ?_, fun c n sl => hbegin _⟩
    · rw [exec_cmdSelectCodeSet, hb]
      exact hbegin b
    · rw [exec_cmdDisableTypematic, hb]
      exact hbegin b
  case absent =>
    refine ⟨fun hnone => ?_, fun hnone => ?_⟩
    · rw [exec_cmdSelectCodeSet, hnone, cmdBeginOf]
    · rw [exec_cmdDisableTypematic, hnone, cmdBeginOf]
  case inside =>
    exact ⟨cmdBegin_of_inside hinside _, cmdBeginOf_of_inside hinside, cmdBeginOf_of_inside hinside,
      fun c n sl => cmdBegin_of_inside hinside _⟩

/-- Settles O54: each reply by its row, and the poll as the row of the byte at the head. -/
theorem whatAReplyDecides : Obligations.WhatAReplyDecides := by
  unfold Obligations.WhatAReplyDecides
  refine ⟨fun s b => ⟨rfl, ⟨_, rfl, cmdAttempt_attemptFrom s⟩, ⟨_, rfl, cmdAttempt_attemptFrom _⟩, fun hlate => ?late,
    fun hin => ?within⟩, fun s b x hq hwait => ⟨fun hhead i hdec => ?byte, fun hnone => ?empty⟩⟩
  case late =>
    have hexpired : expired s.cfg s.cfg.tReplyMs s.cmd.t0 s.env.msNow = true := expired_eq_true.mpr hlate
    refine ⟨_, rfl, ?_⟩
    rw [replyNone, if_pos hexpired]
    exact cmdAttempt_attemptFrom _
  case within =>
    have hnot : expired s.cfg s.cfg.tReplyMs s.cmd.t0 s.env.msNow = false := expired_eq_false.mpr hin
    simp only [exec, execReplyNone, replyNone, hnot, Bool.false_eq_true, if_false]
  case byte =>
    rw [exec_sCmd_wait hwait, exec_reply_eq_cmdPoll hhead hdec]
    exact ⟨rfl, queueHead_queued hq hhead⟩
  case empty => rw [exec_sCmd_wait hwait, exec_replyNone_eq_cmdPoll hnone]

/-! ### S.STARTUP -/

section
variable {s : State} (hwf : s.cfg.wf = true) (hfree : s.foregroundFree) (hi : s.env.inputs = [])
include hwf hfree hi

/-- The first step of S.STARTUP: with the lines released the level of `clk` does not fall. -/
theorem step_at_boot (hfg : s.fg = .boot) : step s = .next { releaseBus s with fg := .startup 0 } := by
  have hclk : s.clk = false ∨ State.clk { releaseBus s with fg := .startup 0 } = true := by
    simp only [State.clk, releaseBus]
    cases s.env.devClkLow <;> simp
  rw [step_nil hwf hi, fgStep_at_boot hfree hfg, andThen_of_next, takeEdge_of_clk hclk]

/-- A position at which an S.CMD begins. -/
theorem step_of_cmdBegin {p : FgPos} {b : Byte} (h : fgStep s = cmdBegin b { s with fg := p }) :
    step s = .next (commandStarted b { s with fg := p }) :=
  step_of_fgStep hwf hi (h.trans (cmdBegin_of_idle (s := { s with fg := p }) hwf hfree.2.1 b)) rfl

end

/-- Settles O57: each position by FG's equation for it. -/
theorem theStartupSequence : Obligations.TheStartupSequence := by
  unfold Obligations.TheStartupSequence
  refine ⟨⟨rfl, rfl⟩, fun s hfg => ?first, fun s i hwf hfree hi => ⟨fun hfg => ?boot, fun c hfg hc => ?byte, fun hfg hend => ?last,
    fun hfg hok => ?acknowledged, fun hfg hfailed => ?failed⟩⟩
  case first =>
    simp only [exec, execSStartup, hfg, execLineInit, andThen_of_next]
  case boot =>
    have hstep := step_at_boot hwf hfree hi hfg
    exact ⟨hstep.trans (by simp only [exec, execSStartup, hfg]), hstep⟩
  case byte =>
    have ⟨_, hidle, _⟩ := hfree
    have hbegin := cmdBegin_of_idle (s := { s with fg := .startupWait i }) hwf hidle c
    rw [exec_sCmd_idle (s := { s with fg := .startupWait i }) hidle, hbegin]
    exact step_of_cmdBegin hwf hfree hi (fgStep_at_startup hfree hfg hc)
  case last => exact step_of_fgStep hwf hi (fgStep_at_startup_end hfree hfg hend) rfl
  case acknowledged =>
    refine step_of_fgStep hwf hi ?_ rfl
    rw [fgStep_at_startupWait hfree hfg, if_pos hok]
  case failed =>
    have hturn := fgStep_at_startupWait hfree hfg
    rw [hfailed] at hturn
    exact ⟨_, step_of_fgStep hwf hi hturn rfl, rfl, rfl⟩

/-! ### S.LED -/

theorem ledRemap_bits (u : Byte) : (ledRemap u).getLsbD 2 = u.getLsbD 1 ∧ (ledRemap u).getLsbD 1 = u.getLsbD 0 ∧
    (ledRemap u).getLsbD 0 = u.getLsbD 2 ∧ ∀ i < 8, 3 ≤ i → (ledRemap u).getLsbD i = false := by
  revert u
  decide +kernel

theorem ledLegacyByte_bits (u : Byte) : ledLegacyByte (u.getLsbD 1) (u.getLsbD 0) (u.getLsbD 2) = ledRemap u := by
  revert u
  decide +kernel

/-- Settles O55: the latch is one update, the remap is read bit by bit. -/
theorem anLedByteIsLatchedAndRemapped : Obligations.AnLedByteIsLatchedAndRemapped := by
  unfold Obligations.AnLedByteIsLatchedAndRemapped
  intro s u
  obtain ⟨hcaps, hnum, hscroll, hhigh⟩ := ledRemap_bits u
  refine ⟨⟨rfl, rfl⟩, hcaps, hnum, hscroll, fun i h3 => ?_, ledLegacyByte_bits u⟩
  obtain h8 | h8 := Nat.lt_or_ge i 8
  · exact hhigh i h8 h3
  · exact BitVec.getLsbD_of_ge _ _ h8

/-- Settles O56: each position by FG's equation for it. -/
theorem theLedCommandSequence : Obligations.TheLedCommandSequence := by
  unfold Obligations.TheLedCommandSequence
  refine fun s u hwf hfree hi => ⟨fun hfg hpending => ⟨?reads, ?operation⟩, fun hfg => ?command, fun hfg hok => ?acknowledged,
    fun hfg hfailed => ?failed, fun hfg => ?argument, fun hfg => ?ended⟩
  case reads => exact step_of_fgStep hwf hi (fgStep_at_led_pending hfree hfg hpending) rfl
  case operation => simp only [exec, execSLed, hfg, hpending, if_true]
  case command => exact step_of_cmdBegin hwf hfree hi (fgStep_at_ledSend hfree hfg)
  case acknowledged =>
    refine step_of_fgStep hwf hi ?_ rfl
    rw [fgStep_at_ledWait hfree hfg, hok]
    rfl
  case failed =>
    refine step_of_fgStep hwf hi ?_ rfl
    rw [fgStep_at_ledWait hfree hfg, hfailed]
    rfl
  case argument => exact step_of_cmdBegin hwf hfree hi (fgStep_at_ledArgSend hfree hfg)
  case ended => exact step_of_fgStep hwf hi (fgStep_at_ledArgWait hfree hfg) rfl

/-! ### S.RESEND -/

theorem exec_sResend_at_resend {s : State} (hfg : s.fg = .resend) :
    exec .sResend s = .next { s with fg := if s.resendRequest then .resendSend else .drain } := by
  simp only [exec, execSResend, hfg]

theorem step_at_resend {s : State} (hwf : s.cfg.wf = true) (hfree : s.foregroundFree) (hi : s.env.inputs = [])
    (hfg : s.fg = .resend) : step s = exec .sResend s :=
  (step_of_fgStep hwf hi (fgStep_at_resend hfree hfg) rfl).trans (exec_sResend_at_resend hfg).symm

/-- Settles O58: each position by FG's equation for it. -/
theorem aResendRequestIsServedOnce : Obligations.AResendRequestIsServedOnce := by
  unfold Obligations.AResendRequestIsServedOnce
  refine fun s hwf hfree hi => ⟨fun hfg hnone => ?idle, fun hfg hasked => ?asked, fun hfg => ?send, fun hfg hok => ?written,
    fun hfg hfailed => ?failed⟩
  case idle =>
    rw [step_at_resend hwf hfree hi hfg, exec_sResend_at_resend hfg, hnone]
    exact ⟨rfl, rfl⟩
  case asked =>
    rw [step_at_resend hwf hfree hi hfg, exec_sResend_at_resend hfg, hasked]
    exact ⟨rfl, rfl⟩
  case send =>
    have ⟨_, _, hrest⟩ := hfree
    have hbegin := txBegin_of_rest (s := { s with fg := .resendWait }) hrest s.cfg.cmdResend
    exact step_of_fgStep hwf hi ((fgStep_at_resendSend hfree hfg).trans hbegin) rfl
  case written =>
    refine step_of_fgStep hwf hi ?_ rfl
    rw [fgStep_at_resendWait hfree hfg, hok]
    rfl
  case failed =>
    refine step_of_fgStep hwf hi ?_ rfl
    rw [fgStep_at_resendWait hfree hfg, hfailed]
    rfl

/-! ### S.LOOP -/

theorem exec_sLoop_of_run {s : State} (hmode : s.mode = .run) : exec .sLoop s = .next { s with fg := .resend } := by
  simp only [exec, execSLoop, hmode]

theorem exec_sLoop_of_not_run {s : State} (hmode : s.mode ≠ .run) : exec .sLoop s = .next s := by
  cases h : s.mode with
  | run => exact absurd h hmode
  | boot | failed => simp only [exec, execSLoop, h]

/-- Settles O59: five steps, each by FG's equation for its position, end at the position they began with. -/
theorem anIdleLoopIterationChangesNothing : Obligations.AnIdleLoopIterationChangesNothing := by
  unfold Obligations.AnIdleLoopIterationChangesNothing
  refine ⟨fun s hwf hfree hi hfg hmode hrequest hempty hb he hled hreport => ?iteration,
    fun s => ⟨rfl, exec_sLoop_of_run, exec_sLoop_of_not_run⟩⟩
  case iteration =>
    have hloop := exec_sLoop_of_run hmode
    have hfirst : step s = .next { s with fg := .resend } :=
      step_of_fgStep hwf hi ((fgStep_at_loopTop hfree hfg).trans hloop) rfl
    have hsecond : step { s with fg := .resend } = .next { s with fg := .drain } := by
      rw [step_at_resend (s := { s with fg := .resend }) hwf hfree hi rfl,
        exec_sResend_at_resend (s := { s with fg := .resend }) rfl]
      simp only [hrequest, Bool.false_eq_true, if_false]
    have hthird : step { s with fg := .drain } = .next { s with fg := .deliver } :=
      step_at_empty_drain (s := { s with fg := .drain }) hwf hfree hi rfl hb he hempty
    have hfourth : step { s with fg := .deliver } = .next { s with fg := .led } := by
      rw [step_at_deliver (s := { s with fg := .deliver }) hwf hfree hi rfl, exec_rDeliver, if_pos hreport]
    have hfifth : step { s with fg := .led } = .next s := by
      have hback : ({ s with fg := .loopTop } : State) = s := by rw [← hfg]
      exact (step_of_fgStep (s := { s with fg := .led }) hwf hi
        (fgStep_at_led_none (s := { s with fg := .led }) hfree rfl hled) rfl).trans (congrArg _ hback)
    rw [run_of_step hfirst, run_of_step hfirst, run_of_step hfirst, run_of_step hfirst, run_of_step hfirst]
    rw [run_of_step hsecond, run_of_step hsecond, run_of_step hsecond, run_of_step hsecond]
    exact ⟨hloop.symm, rfl, run_of_step hthird 0, (run_of_step hthird 1).trans (run_of_step hfourth 0),
      (run_of_step hthird 2).trans ((run_of_step hfourth 1).trans (run_of_step hfifth 0))⟩

end Sys2Proof.Machine

/-! Proofs. A write ends (R162, R170): each poll moves the write along its sequence, past the deadlines it does not stay, and the
only way back is from TX_SETTLE to TX_WAIT_IDLE. -/

namespace Sys2Proof.Machine

/-! ### What a poll does to the write -/

/-- One move of a running write; with `late`, past the deadlines, it does not stay. -/
inductive WriteMove (late : Prop) (a b : Tx) : Prop
  | stays (same : b = a) (early : ¬ late)
  | ends (after : b.phase = .done)
  | settles (before : a.phase = .waitIdle) (after : b.phase = .settle)
  | disturbed (before : a.phase = .settle) (after : b.phase = .waitIdle)
  | masks (before : a.phase = .settle) (after : b.phase = .inhibit)
  | inhibits (before : a.phase = .inhibit) (after : b.phase = .start)
  | starts (before : a.phase = .start) (after : b.phase = .waitLow)
  | places (before : a.phase = .waitLow) (after : b.phase = .waitHigh) (index : b.index = a.index + 1)
  | clocks (before : a.phase = .waitHigh) (after : b.phase = .waitLow) (index : b.index = a.index)
  | clocked (before : a.phase = .waitHigh) (after : b.phase = .ackWaitLow)
  | acknowledged (before : a.phase = .ackWaitLow) (after : b.phase = .ackWaitRelease)

/-- Both deadlines of the running write have passed. -/
def PastDeadlines (s : State) : Prop := txExpired s.cfg.tIdleMs s = true ∧ txExpired s.cfg.tClockoutMs s = true

/-- A wait without its level fails past the limit; within it the deadlines have not both passed. -/
theorem answers_wait {s u : State} {limit : Nat} (f : TxFault) (hu : u.tx = s.tx)
    (hlimit : PastDeadlines s → txExpired limit s = true) :
    Answers (fun t => WriteMove (PastDeadlines s) s.tx t.tx) (if txExpired limit s then .next (txFail f u) else .next u) := by
  split
  next => exact answers_next.mpr (.ends rfl)
  next hin => exact answers_next.mpr (.stays hu (mt hlimit hin))

theorem exec_poll_move {s : State} {i : Instr} (hi : pollOf s.tx.phase = some i) :
    Answers (fun t => WriteMove (PastDeadlines s) s.tx t.tx) (exec i s) := by
  cases hphase : s.tx.phase <;> rw [hphase] at hi <;> cases hi
  case waitIdle =>
    rw [exec_txWaitIdle]
    refine answers_ite.mpr ⟨fun _ => answers_next.mpr (.settles hphase rfl), fun _ => ?_⟩
    exact answers_wait .busBusy (rxStale_tx s) (·.1)
  case settle =>
    simp only [exec, execTxSettle, answers_ite, answers_next]
    exact ⟨fun _ => .masks hphase rfl, fun _ => .disturbed hphase rfl⟩
  case inhibit => exact answers_next.mpr (.inhibits hphase rfl)
  case start => exact answers_next.mpr (.starts hphase rfl)
  case waitLow =>
    cases hclk : s.clk with
    | false =>
      rw [exec_txWaitLow_low hclk]
      exact answers_next.mpr (.places hphase rfl rfl)
    | true =>
      rw [exec_txWaitLow_high hclk]
      exact answers_wait .clockTimeout rfl (·.2)
  case waitHigh =>
    cases hclk : s.clk with
    | true =>
      rw [exec_txWaitHigh_high hclk]
      refine answers_next.mpr ?_
      split
      · exact .clocks hphase rfl rfl
      · exact .clocked hphase rfl
    | false =>
      rw [exec_txWaitHigh_low hclk]
      exact answers_wait .clockTimeout rfl (·.2)
  case ackWaitLow =>
    cases hclk : s.clk with
    | false =>
      rw [exec_txAckWaitLow_low hclk]
      refine answers_next.mpr ?_
      cases s.data with
      | true => exact .ends rfl
      | false => exact .acknowledged hphase rfl
    | true =>
      rw [exec_txAckWaitLow_high hclk]
      exact answers_wait .ackTimeout rfl (·.2)
  case ackWaitRelease =>
    by_cases hheld : s.clk = true ∧ s.data = true
    · rw [exec_txAckWaitRelease_released hheld.1 hheld.2]
      exact answers_next.mpr (.ends rfl)
    · rw [exec_txAckWaitRelease_held hheld]
      exact answers_wait .ackTimeout rfl (·.2)

/-- Past the deadlines every move of a running write leaves its phase. -/
theorem WriteMove.phase_ne {late : Prop} {a b : Tx} (h : WriteMove late a b) (hrun : a.phase.atRest = false) (hlate : late) :
    b.phase ≠ a.phase := by
  cases h with
  | stays same early => exact absurd hlate early
  | ends after =>
    intro heq
    rw [← heq, after] at hrun
    cases hrun
  | _ before after => rw [before, after]; decide

/-- A move that does not end the write leaves it running. -/
theorem WriteMove.running {late : Prop} {a b : Tx} (h : WriteMove late a b) (hrun : a.phase.atRest = false)
    (hnot : b.phase ≠ .done) : b.phase.atRest = false := by
  cases h with
  | stays same early =>
    rw [same]
    exact hrun
  | ends after => exact absurd after hnot
  | _ before after => rw [after]; rfl

/-! ### The order of the moves -/

/-- How far the write has come; only TX_WAIT_IDLE and TX_SETTLE, which may alternate, are level. -/
def rank (a : Tx) : Nat :=
  match a.phase with
  | .idle | .done | .waitIdle | .settle => 0
  | .inhibit => 1
  | .start => 2
  | .waitLow => 2 * a.index.toNat + 3
  | .waitHigh => 2 * a.index.toNat + 2
  | .ackWaitLow => 23
  | .ackWaitRelease => 24

theorem rank_le {a : Tx} (h : a.index.toNat ≤ 10) : rank a ≤ 24 := by
  unfold rank
  cases a.phase <;> dsimp only <;> omega

theorem phase_of_rank_zero {a : Tx} (h : rank a = 0) (hrun : a.phase.atRest = false) :
    a.phase = .waitIdle ∨ a.phase = .settle := by
  unfold rank at h
  cases hphase : a.phase <;> simp_all [TxPhase.atRest]

/-- A move stays, alternates between the level phases, or goes up; unless it ends the write. -/
theorem WriteMove.rank_cases {late : Prop} {a b : Tx} (h : WriteMove late a b) (hle : a.index.toNat ≤ 10)
    (hlow : a.phase = .waitLow → a.index.toNat < 10) (hrun : b.phase.atRest = false) :
    (b = a ∧ ¬ late) ∨ (rank a = 0 ∧ rank b = 0) ∨ rank a < rank b := by
  cases h with
  | stays same early => exact .inl ⟨same, early⟩
  | ends after =>
    rw [after] at hrun
    cases hrun
  | settles before after | disturbed before after =>
    refine .inr (.inl ?_)
    simp only [rank, before, after, and_self]
  | places before after index =>
    have hsucc := index_succ_toNat (hlow before)
    refine .inr (.inr ?_)
    simp only [rank, before, after, index]
    omega
  | clocks before after index =>
    refine .inr (.inr ?_)
    simp only [rank, before, after, index]
    omega
  | masks before after | inhibits before after | starts before after | clocked before after | acknowledged before after =>
    refine .inr (.inr ?_)
    simp only [rank, before, after]
    omega

/-! ### A step moves the write only in FG's turn -/

/-- One step while a write is running, the stimulus `x`. -/
theorem step_moves_write {s t : State} {x : Stimulus} (h : Inv s) (hrun : s.tx.phase.atRest = false)
    (hstep : step (s.withInputs [x]) = .next t) : WriteMove (x = .fg ∧ PastDeadlines s) s.tx t.tx := by
  rw [step_withInputs h.cfg_wf] at hstep
  by_cases hx : x = .fg
  · obtain ⟨i, hi⟩ := pollOf_of_running hrun
    have hturn : fgStep (s.withInputs []) = exec i (s.withInputs []) :=
      fgStep_of_running (s := s.withInputs []) (h.control.due_of_running hrun) hi
    have hmove : Leads (fun u => WriteMove (PastDeadlines s) s.tx u.tx) (exec i (s.withInputs [])) :=
      (exec_poll_move (s := s.withInputs []) hi).leads
    subst hx
    simp only [applyStimulus, hturn] at hstep
    obtain ⟨u, hu, hedge⟩ := andThen_next.mp hstep
    rw [(takeEdge_sameForeground _ u t hedge).1]
    simpa only [true_and] using hmove u hu
  · exact .stays (applyStimulus_sameForeground hx (s.withInputs []) t hstep).1 fun hlate => hx hlate.1

/-! ### A fair run -/

/-- A run that keeps a write running for ever: every step moves it, and past the deadlines again and again. -/
structure Unending (σ : Nat → State) : Prop where
  index : ∀ n, IndexInv (σ n)
  running : ∀ n, (σ n).tx.phase.atRest = false
  moves : ∀ n, ∃ late, WriteMove late (σ n).tx (σ (n + 1)).tx
  fair : ∀ n, ∃ m, n ≤ m ∧ WriteMove True (σ m).tx (σ (m + 1)).tx

theorem unending_of_never_done {x : Nat → Stimulus} {σ : Nat → State} (h : Inv (σ 0)) (hrunOf : RunOf x σ)
    (hfair : FairToWrites x σ) (hrun : (σ 0).tx.phase.atRest = false) (hnever : ∀ n, (σ n).tx.phase ≠ .done) :
    Unending σ := by
  have hboth : ∀ n, Inv (σ n) ∧ (σ n).tx.phase.atRest = false := by
    intro n
    induction n with
    | zero => exact ⟨h, hrun⟩
    | succ n ih =>
      obtain ⟨hn, hnrun⟩ := ih
      refine ⟨everyStepKeepsTheInvariant _ _ (hn.congr (t := (σ n).withInputs [x n]) rfl) (hrunOf n), ?_⟩
      exact (step_moves_write hn hnrun (hrunOf n)).running hnrun (hnever _)
  have hmoves : ∀ n, WriteMove (x n = .fg ∧ PastDeadlines (σ n)) (σ n).tx (σ (n + 1)).tx :=
    fun n => step_moves_write (hboth n).1 (hboth n).2 (hrunOf n)
  refine ⟨fun n => (hboth n).1.index, fun n => (hboth n).2, fun n => ⟨_, hmoves n⟩, fun n => ?_⟩
  obtain ⟨m, hnm, hfg, hlate⟩ := hfair n
  refine ⟨m, hnm, ?_⟩
  have hall : x m = .fg ∧ PastDeadlines (σ m) := ⟨hfg, hlate (hboth m).2⟩
  have := hmoves m
  rwa [eq_true hall] at this

section
variable {σ : Nat → State} (h : Unending σ)
include h

theorem Unending.rank_cases {late : Prop} {n : Nat} (hmove : WriteMove late (σ n).tx (σ (n + 1)).tx) :
    ((σ (n + 1)).tx = (σ n).tx ∧ ¬ late) ∨ (rank (σ n).tx = 0 ∧ rank (σ (n + 1)).tx = 0) ∨
      rank (σ n).tx < rank (σ (n + 1)).tx :=
  hmove.rank_cases (h.index n).index_le (h.index n).low_lt (h.running (n + 1))

theorem Unending.rank_mono : Monotone fun n => rank (σ n).tx := by
  refine monotone_nat_of_le_succ fun n => ?_
  obtain ⟨late, hmove⟩ := h.moves n
  obtain ⟨hsame, -⟩ | ⟨hzero, -⟩ | hlt := h.rank_cases hmove
  · exact (congrArg rank hsame).ge
  · exact hzero.trans_le (Nat.zero_le _)
  · exact hlt.le

/-- Past the level phases the write would rise for ever, and the ranks are bounded. -/
theorem Unending.rank_eq_zero (n : Nat) : rank (σ n).tx = 0 := by
  by_contra hpos
  have hrises : ∀ j, ∃ m, n ≤ m ∧ j ≤ rank (σ m).tx := by
    intro j
    induction j with
    | zero => exact ⟨n, le_rfl, Nat.zero_le _⟩
    | succ j ih =>
      obtain ⟨m, hnm, hj⟩ := ih
      obtain ⟨k, hmk, hmove⟩ := h.fair m
      have hnk := h.rank_mono (hnm.trans hmk)
      have hmk := h.rank_mono hmk
      dsimp only at hnk hmk
      obtain ⟨-, hstays⟩ | ⟨hzero, -⟩ | hlt := h.rank_cases hmove
      · exact absurd trivial hstays
      · omega
      · exact ⟨k + 1, by omega, by omega⟩
  obtain ⟨m, -, hm⟩ := hrises 25
  have := rank_le (h.index m).index_le
  omega

theorem Unending.phase_cases (n : Nat) : (σ n).tx.phase = .waitIdle ∨ (σ n).tx.phase = .settle :=
  phase_of_rank_zero (h.rank_eq_zero n) (h.running n)

/-- A fair turn changes the phase; after one into TX_SETTLE the next finds it disturbed, then or before. -/
theorem Unending.heldOff : HeldOff σ := by
  intro n
  by_contra hno
  have hstay : ∀ m, n ≤ m → (σ m).tx.phase = .settle → (σ (m + 1)).tx.phase = .settle :=
    fun m hm hsettle => (h.phase_cases (m + 1)).resolve_left fun hidle => hno ⟨m, hm, hsettle, hidle⟩
  obtain ⟨m, hnm, hmove⟩ := h.fair n
  have hleaves := hmove.phase_ne (h.running m) trivial
  have hsettled : (σ (m + 1)).tx.phase = .settle := by
    obtain hidle | hsettle := h.phase_cases m
    · exact (h.phase_cases (m + 1)).resolve_left (hidle ▸ hleaves)
    · exact hstay m hnm hsettle
  have hafter : ∀ k, m + 1 ≤ k → (σ k).tx.phase = .settle := fun k hk =>
    Nat.le_induction hsettled (fun j hj hsettle => hstay j (by omega) hsettle) k hk
  obtain ⟨k, hmk, hmove'⟩ := h.fair (m + 1)
  exact hmove'.phase_ne (h.running k) trivial ((hafter (k + 1) (by omega)).trans (hafter k hmk).symm)

end

/-- Settles O51: past the deadlines a poll leaves its phase; a write that never ends stays in the two level phases, and there each
fair turn changes the phase. -/
theorem noPhaseOutlivesItsDeadline : Obligations.NoPhaseOutlivesItsDeadline := by
  unfold Obligations.NoPhaseOutlivesItsDeadline
  refine ⟨fun s sel i hsel hdec hidle hclock => ?leaves, fun x σ h hrunOf hfair hrun => ?ends⟩
  case leaves =>
    obtain ⟨j, hpoll, hj⟩ := decode_txSelector s.cfg hsel
    obtain rfl := Decoded.ok.inj (hj.symm.trans hdec)
    have hrun : s.tx.phase.atRest = false := Bool.eq_false_iff.mpr fun hrest => by
      rw [txSelector_of_rest hrest] at hsel
      cases hsel
    obtain ⟨t, ht, hmove⟩ := exec_poll_move hpoll
    exact ⟨t, ht, hmove.phase_ne hrun ⟨txExpired_eq_true.mpr hidle, txExpired_eq_true.mpr hclock⟩⟩
  case ends =>
    by_cases hdone : ∃ n, (σ n).tx.phase = .done
    · exact .inl hdone
    · exact .inr (unending_of_never_done h hrunOf hfair hrun fun n hn => hdone ⟨n, hn⟩).heldOff

end Sys2Proof.Machine
